-- ==== Sys2Proof/Word.lean ====
section
/-! DEFINITION. The unsigned words of timer_core (spec/00_scope.md section 5: u8, u12, u20, u32, u64) and the plain
data types every later file shares: the ten registers, the two access kinds, one frame at the block's port. -/

namespace Sys2Proof

/-- The 8-bit step field (spec R5, R15). -/
abbrev U8 := BitVec 8
/-- The 12-bit prescaler field (spec R5, R14). -/
abbrev U12 := BitVec 12
/-- The 20-bit divider (spec R10, R16). -/
abbrev U20 := BitVec 20
/-- A register's 32 bits, a byte offset, or the data of a bus write (spec R42, R60). -/
abbrev U32 := BitVec 32
/-- The counter, the compare value and an `ADV` amount (spec R5, R60). -/
abbrev U64 := BitVec 64

/-- The ten registers of the register file (spec R22). -/
inductive Reg where
  | alertTest | control0 | configuration | valueLow | valueHigh
  | compareLow | compareHigh | intrEnable | intrStatus | intrTest
  deriving DecidableEq, Repr

/-- The direction of a bus access: the `kind` of the one fault (spec R140). -/
inductive AccessKind where
  | read | write
  deriving DecidableEq, Repr

/-- One stimulus as it stands at the block's port: the 35-bit key of spec R68 in its five bytes (bits 39 to 35 carry
nothing and must be 0), followed by the data word where there is one (spec 95_test_vectors.md: "the 35-bit key of
30_encoding.md rule R68 followed by the data word"): the 32 bits of `wdata`, or the 64 bits of `d`.
DESIGN CHOICE (log 2): no wire carries this frame. -/
structure Frame where
  key : BitVec 40
  data : U64
  deriving DecidableEq, Repr

end Sys2Proof
end

