-- ==== Sys2Proof/Config.lean ====
section
/-! DEFINITION. What the platform fixes for one timer_core (spec R6) and the window's size (spec R40). -/

namespace Sys2Proof

/-- `BASE`, the bus address of offset 0x000 (spec R6, R51). The spec leaves it to the platform, so it has no value
here: nothing can be proved that depends on one (log 16). -/
opaque Config.base : Nat

/-- `Size`, the bytes the register window spans (spec R5, R40). -/
def Config.windowSize : Nat := 0x120

end Sys2Proof
end

