-- ==== Sys2Proof/Syntax.lean ====
section
/-! DEFINITION. The stimuli of timer_core: one constructor per row of spec/opcode_table.json (spec R60, R68). The
block has no instruction set (spec R1); a stimulus stands where another hardware has an instruction. -/

namespace Sys2Proof

/-- One stimulus, with the fields it carries (spec R60): a bus write its data, an unmapped access its offset,
`ADV` its amount. A mapped access carries no offset, for its register is its name. -/
inductive Instr where
  /-- `RD_ALERT_TEST`, spec R81. -/
  | rdAlertTest
  /-- `WR_ALERT_TEST`, spec R82. -/
  | wrAlertTest (wdata : U32)
  /-- `RD_CONTROL0`, spec R83. -/
  | rdControl0
  /-- `WR_CONTROL0`, spec R84. -/
  | wrControl0 (wdata : U32)
  /-- `RD_CONFIGURATION`, spec R111. -/
  | rdConfiguration
  /-- `WR_CONFIGURATION`, spec R112. -/
  | wrConfiguration (wdata : U32)
  /-- `RD_VALUE_LOW`, spec R90. -/
  | rdValueLow
  /-- `WR_VALUE_LOW`, spec R92. -/
  | wrValueLow (wdata : U32)
  /-- `RD_VALUE_HIGH`, spec R91. -/
  | rdValueHigh
  /-- `WR_VALUE_HIGH`, spec R93. -/
  | wrValueHigh (wdata : U32)
  /-- `RD_COMPARE_LOW`, spec R94. -/
  | rdCompareLow
  /-- `WR_COMPARE_LOW`, spec R96. -/
  | wrCompareLow (wdata : U32)
  /-- `RD_COMPARE_HIGH`, spec R95. -/
  | rdCompareHigh
  /-- `WR_COMPARE_HIGH`, spec R97. -/
  | wrCompareHigh (wdata : U32)
  /-- `RD_INTR_ENABLE`, spec R122. -/
  | rdIntrEnable
  /-- `WR_INTR_ENABLE`, spec R123. -/
  | wrIntrEnable (wdata : U32)
  /-- `RD_INTR_STATUS`, spec R124. -/
  | rdIntrStatus
  /-- `WR_INTR_STATUS`, spec R125. -/
  | wrIntrStatus (wdata : U32)
  /-- `RD_INTR_TEST`, spec R126. -/
  | rdIntrTest
  /-- `WR_INTR_TEST`, spec R127. -/
  | wrIntrTest (wdata : U32)
  /-- `RD_UNMAPPED`, spec R85: a read at an offset that holds no register. -/
  | rdUnmapped (off : U32)
  /-- `WR_UNMAPPED`, spec R86: a write at an offset that holds no register. -/
  | wrUnmapped (off : U32) (wdata : U32)
  /-- `RESET`, spec R160. -/
  | reset
  /-- `CMPHIT`, spec R128: the tick engine's compare-reached notification. -/
  | cmphit
  /-- `ADV d`, spec R99: the tick engine advances the counter by `d`. -/
  | adv (d : U64)
  deriving DecidableEq, Repr

end Sys2Proof
end

