-- ==== Sys2Proof/Decode.lean ====
section
/-! DEFINITION. From a frame at the port to a stimulus (spec R61 to R63, R68), and the encoder beside it. -/

namespace Sys2Proof

/-! ### The register decoder -/

/-- `Decode(off)` of spec R63, test for test and in its order; `none` is `Unmapped`. All 32 bits take part. -/
def regDecode (off : U32) : Option Reg :=
  if off.extractLsb' 0 2 ≠ 0 then none
  else if off = 0x000 then some .alertTest
  else if off = 0x004 then some .control0
  else if off = 0x100 then some .configuration
  else if off = 0x104 then some .valueLow
  else if off = 0x108 then some .valueHigh
  else if off = 0x10C then some .compareLow
  else if off = 0x110 then some .compareHigh
  else if off = 0x114 then some .intrEnable
  else if off = 0x118 then some .intrStatus
  else if off = 0x11C then some .intrTest
  else none

/-- The stimulus a bus read at `off` is (spec R61): its register's read, or `RD_UNMAPPED`. -/
def busRead (off : U32) : Instr :=
  match regDecode off with
  | some .alertTest => .rdAlertTest
  | some .control0 => .rdControl0
  | some .configuration => .rdConfiguration
  | some .valueLow => .rdValueLow
  | some .valueHigh => .rdValueHigh
  | some .compareLow => .rdCompareLow
  | some .compareHigh => .rdCompareHigh
  | some .intrEnable => .rdIntrEnable
  | some .intrStatus => .rdIntrStatus
  | some .intrTest => .rdIntrTest
  | none => .rdUnmapped off

/-- The stimulus a bus write of `wdata` at `off` is (spec R62): its register's write, or `WR_UNMAPPED`. -/
def busWrite (off wdata : U32) : Instr :=
  match regDecode off with
  | some .alertTest => .wrAlertTest wdata
  | some .control0 => .wrControl0 wdata
  | some .configuration => .wrConfiguration wdata
  | some .valueLow => .wrValueLow wdata
  | some .valueHigh => .wrValueHigh wdata
  | some .compareLow => .wrCompareLow wdata
  | some .compareHigh => .wrCompareHigh wdata
  | some .intrEnable => .wrIntrEnable wdata
  | some .intrStatus => .wrIntrStatus wdata
  | some .intrTest => .wrIntrTest wdata
  | none => .wrUnmapped off wdata

/-- The stimulus of a bus access of either kind; a read has no use for `wdata`. -/
def busAccess (kind : AccessKind) (off wdata : U32) : Instr :=
  match kind with
  | .read => busRead off
  | .write => busWrite off wdata

/-! ### The frame decoder -/

/-- Why a frame is no stimulus. Both are the model's own (log 2): no wire of the hardware carries a frame. -/
inductive Reject where
  /-- Raised by `decode`: a bit above the 35-bit key of spec R68 is set. Safe. -/
  | keyTooWide
  /-- Raised by `decode`: a bus write with more than 32 bits of data; the port offers no such access (spec R42,
  R62: `wdata : u32`). Safe. -/
  | wdataTooWide
  deriving DecidableEq, Repr

/-- Key bits 34:33, the port (spec R68). -/
def Frame.port (f : Frame) : BitVec 2 := f.key.extractLsb' 33 2
/-- Key bit 32, the direction of a bus access (spec R68). -/
def Frame.we (f : Frame) : Bool := f.key.getLsbD 32
/-- Key bits 31:0, the byte offset of a bus access (spec R68). -/
def Frame.off (f : Frame) : U32 := f.key.extractLsb' 0 32
/-- The low word of the frame's data: a bus write's `wdata` (spec R62). -/
def Frame.wdata (f : Frame) : U32 := f.data.extractLsb' 0 32

/-- Key bits 39:35 are clear: the key is one of spec R68's 35-bit keys. -/
def Frame.keyFits (f : Frame) : Bool := f.key.extractLsb' 35 5 == 0
/-- The data word is a `u32`. -/
def Frame.wdataFits (f : Frame) : Bool := f.data.extractLsb' 32 32 == 0

/-- The stimulus of a bus frame (port 0) by its `we` bit (spec R68); a read carries no data and looks at none. -/
def decodeBus (f : Frame) : Except Reject Instr :=
  if f.we then
    if f.wdataFits then .ok (busWrite f.off f.wdata) else .error .wdataTooWide
  else .ok (busRead f.off)

/-- The stimulus a frame stands for: row selection of spec R68 by port, then by `we` and the offset, the unmapped
rows only where no full-mask row matches. The data is no part of the key, so `ADV` is selected whatever its `d`; that
`1 <= d` is `Instr.wf`'s to check (log 6). `we` and `off` are ignored for the events (spec R68). -/
def decode (f : Frame) : Except Reject Instr :=
  if f.keyFits then
    if f.port = 0 then decodeBus f
    else if f.port = 1 then .ok .reset
    else if f.port = 2 then .ok .cmphit
    else .ok (.adv f.data)
  else .error .keyTooWide

/-! ### The encoder -/

/-- The frame of a bus read at `off`: port 0, `we` 0, no data. -/
def readFrame (off : U32) : Frame := ⟨off.setWidth 40, 0⟩
/-- The frame of a bus write at `off`: port 0, `we` 1, `wdata` after the key. -/
def writeFrame (off wdata : U32) : Frame := ⟨0x100000000#40 ||| off.setWidth 40, wdata.setWidth 64⟩

/-- The frame of a stimulus, its key from the table of spec R68 (`match` of spec/opcode_table.json; the key bits an
event ignores are 0). -/
def encode : Instr → Frame
  | .rdAlertTest => ⟨0x000000000#40, 0⟩
  | .wrAlertTest w => ⟨0x100000000#40, w.setWidth 64⟩
  | .rdControl0 => ⟨0x000000004#40, 0⟩
  | .wrControl0 w => ⟨0x100000004#40, w.setWidth 64⟩
  | .rdConfiguration => ⟨0x000000100#40, 0⟩
  | .wrConfiguration w => ⟨0x100000100#40, w.setWidth 64⟩
  | .rdValueLow => ⟨0x000000104#40, 0⟩
  | .wrValueLow w => ⟨0x100000104#40, w.setWidth 64⟩
  | .rdValueHigh => ⟨0x000000108#40, 0⟩
  | .wrValueHigh w => ⟨0x100000108#40, w.setWidth 64⟩
  | .rdCompareLow => ⟨0x00000010C#40, 0⟩
  | .wrCompareLow w => ⟨0x10000010C#40, w.setWidth 64⟩
  | .rdCompareHigh => ⟨0x000000110#40, 0⟩
  | .wrCompareHigh w => ⟨0x100000110#40, w.setWidth 64⟩
  | .rdIntrEnable => ⟨0x000000114#40, 0⟩
  | .wrIntrEnable w => ⟨0x100000114#40, w.setWidth 64⟩
  | .rdIntrStatus => ⟨0x000000118#40, 0⟩
  | .wrIntrStatus w => ⟨0x100000118#40, w.setWidth 64⟩
  | .rdIntrTest => ⟨0x00000011C#40, 0⟩
  | .wrIntrTest w => ⟨0x10000011C#40, w.setWidth 64⟩
  | .rdUnmapped off => readFrame off
  | .wrUnmapped off w => writeFrame off w
  | .reset => ⟨0x200000000#40, 0⟩
  | .cmphit => ⟨0x400000000#40, 0⟩
  | .adv d => ⟨0x600000000#40, d⟩

/-! ### Frames as numbers -/

/-- A frame laid out as one number, bit 0 the least significant: the key in bits 39:0, the data in bits 103:40. Only
the low `nbits` bits of `w` count; the rest are 0. -/
def Frame.ofWord (nbits w : Nat) : Frame :=
  ⟨BitVec.ofNat 40 (w % 2 ^ nbits), BitVec.ofNat 64 ((w % 2 ^ nbits) / 2 ^ 40)⟩

/-- The stimulus the decoder reads from the table word `w` of `nbits` bits; `none` where it rejects. -/
def decodeTableWord (nbits w : Nat) : Option Instr :=
  match decode (Frame.ofWord nbits w) with
  | .ok i => some i
  | .error _ => none

end Sys2Proof
end

