-- ==== Sys2Proof/Machine/State.lean ====
section
/-! DEFINITION. The state of the machine: the block's nine elements (spec R10), its answer on the bus port, and the
stimuli the environment has yet to apply. Plain data. -/

namespace Sys2Proof.Machine

/-- The whole state `S` of timer_core: "nine elements and nothing else" (spec R10). -/
structure Block where
  /-- `S.counter`, the timer count (spec R11). -/
  counter : U64
  /-- `S.compare`, the interrupt threshold (spec R12). -/
  compare : U64
  /-- `S.enabled`, the counter may advance (spec R13). -/
  enabled : Bool
  /-- `S.prescaler`, a raw configuration field (spec R14). -/
  prescaler : U12
  /-- `S.step`, a raw configuration field (spec R15). -/
  step : U8
  /-- `S.divider`, the derived rate divider (spec R16). -/
  divider : U20
  /-- `S.intr_enable`, a compare match may assert the line (spec R17). -/
  intrEnable : Bool
  /-- `S.test_force`, the line is forced high (spec R18). -/
  testForce : Bool
  /-- `S.line`, the interrupt line as of the last recompute point (spec R19). -/
  line : Bool
  deriving DecidableEq, Repr

/-- The block's answer to the stimulus it handled last (spec R60). -/
inductive Response where
  /-- Events have no response. -/
  | none
  /-- `ok`, to a bus write. -/
  | ok
  /-- `ok(v)`, to a bus read. -/
  | data (v : U32)
  /-- `fault(UnmappedRegister)`, with the access's kind and offset, which "travel with the response" (spec R140). No
  data goes with it (spec R52). -/
  | fault (kind : AccessKind) (off : U32)
  deriving DecidableEq, Repr

/-- A bus master's access as the master sees it: an absolute address and a size in bytes (spec 00_scope.md section 5,
`MemRead(addr, n)` and `MemWrite(addr, n, v)`). -/
structure Access where
  kind : AccessKind
  addr : Nat
  size : Nat
  wdata : U32
  deriving DecidableEq, Repr

/-- What the environment can do next to the block. -/
inductive Request where
  /-- One stimulus of spec R60 at the block's port, as a frame still to be decoded. -/
  | stimulus (f : Frame)
  /-- A bus master's access, through the bus layer's boundary (spec R42, R51). -/
  | master (a : Access)
  /-- The reference engine's `TICK d` (spec R70, R100 (d)): `ADV d`, and in the same atomic step `CMPHIT` if that
  `ADV` reached the compare value. -/
  | tick (d : U64)
  /-- An engine whose `ENGINE_AFTER_MATCH` is not `free_running` sets the counter after a match (spec
  92_eei_decisions.md D11, 93_implementation_defined.md U1). -/
  | engineSet (v : U64)
  deriving DecidableEq, Repr

/-- The machine: the block, its port and its environment's pending requests, oldest first. The order of `inbox` is
the total order of spec R47; `response` and `inbox` are no elements of the block (log 1, 3). -/
structure State where
  blk : Block
  response : Response
  inbox : List Request
  deriving DecidableEq, Repr

/-- Why a run gets stuck: the environment asks for a step that the spec says it does not have. -/
inductive Fault where
  /-- Raised by `ADV` and `TICK` while `S.enabled = 0` (spec R99: "the stimulus is not enabled (the engine has no such
  step)"; 93_implementation_defined.md: `stuck`). Safe: the run ends. Log 5. -/
  | advWhileDisabled
  /-- Raised by `Request.engineSet` when the counter is below the compare value in the present state, whether it has
  been at or above it earlier or not, or the block is not enabled. That 'after a match' (spec D11, U1) means the
  present state is the model's choice. DESIGN CHOICE, safe: the run ends. Log 14. -/
  | engineSetBeforeMatch
  deriving DecidableEq, Repr

/-- Why the machine gives a request no meaning. -/
inductive Refusal where
  /-- An arm of `exec` with no meaning yet (raised by `exec` alone; no arm does). Safe. -/
  | notModelled (mnemonic : String)
  /-- Raised by `step` when no request is pending: "the block issues nothing on its own" (spec R4). Safe. Log 4. -/
  | noStimulus
  /-- Raised for `ADV 0` and `TICK 0`: "`ADV` with `d = 0` is not a stimulus" (spec R67). Safe. Log 6. -/
  | notAStimulus
  /-- Raised for a frame the decoder rejects. Safe. Log 2. -/
  | frameRejected (r : Reject)
  /-- Raised at the bus boundary for an access of other than 4 bytes: "a model must refuse them at its boundary"
  (spec R42). Safe. Log 16. -/
  | accessWidth (size : Nat)
  /-- Raised at the bus boundary for an address that is no `BASE + off` with a 32-bit `off`: the bus layer does not
  route it to the block (spec R40, R51). Safe. Log 16. -/
  | notRouted (addr : Nat)
  deriving DecidableEq, Repr

/-- The block right after reset, `S0` (spec R33). The values of `prescaler`, `step` and `testForce` are decisions of
the spec (D6, D7; log 7, 10). -/
def Block.s0 : Block where
  counter := 0x00000000_00000000
  compare := 0xFFFFFFFF_FFFFFFFF
  enabled := false
  prescaler := 0
  step := 0
  divider := 1
  intrEnable := false
  testForce := false
  line := false

/-- The machine right after reset or construction (spec R33, R161), nothing asked of it yet. -/
def State.reset : State where
  blk := Block.s0
  response := .none
  inbox := []

end Sys2Proof.Machine
end

