-- ==== Sys2Proof/Machine/Flags.lean ====
section
/-! DEFINITION. The interrupt line: its condition and its recomputation (spec R120). -/

namespace Sys2Proof.Machine

/-- `S.counter >=u S.compare`: unsigned on all 64 bits, and equality counts (spec R114, R120). -/
def Block.reached (b : Block) : Bool := b.compare.ule b.counter

/-- The compound condition `cond` of spec R120. -/
def Block.cond (b : Block) : Bool := b.enabled && b.intrEnable && b.reached

/-- `Recompute()` (spec R120): the line from the current values, or-ed with the test force; nothing else changes. -/
def Block.recompute (b : Block) : Block := { b with line := b.cond || b.testForce }

end Sys2Proof.Machine
end

