-- ==== Sys2Proof/Machine/Operands.lean ====
section
/-! DEFINITION. Fields cut from write data (spec R64), read values assembled from fields (spec R65), and the halves of
a 64-bit element (spec R65, R98). -/

namespace Sys2Proof.Machine

/-! ### Field extraction, by masking (spec R64) -/

/-- `wdata[0]`: the Enabled, enable and test fields. -/
def bit0 (w : U32) : Bool := w.getLsbD 0
/-- `wdata[11:0]`: the Prescaler field (spec R25). -/
def prescalerField (w : U32) : U12 := w.extractLsb' 0 12
/-- `wdata[23:16]`: the Step field (spec R25). -/
def stepField (w : U32) : U8 := w.extractLsb' 16 8

/-! ### Read values: each field at its place, 0 everywhere else (spec R65) -/

/-- `zext_32(b)`: a one-bit field at bit 0. -/
def flagWord (b : Bool) : U32 := (BitVec.ofBool b).setWidth 32
/-- `(zext_32(step) << 16) | zext_32(prescaler)` (spec R65, R111). -/
def configWord (p : U12) (s : U8) : U32 := (s.setWidth 32 <<< 16) ||| p.setWidth 32

/-! ### The halves of a 64-bit element (spec R65) -/

/-- `V[31:0]`. -/
def lowHalf (v : U64) : U32 := v.extractLsb' 0 32
/-- `V[63:32]`. -/
def highHalf (v : U64) : U32 := v.extractLsb' 32 32
/-- The source's masked merge, "(old & ~mask) | (new_shifted & mask)". -/
def mergeMasked (old newShifted mask : U64) : U64 := (old &&& ~~~mask) ||| (newShifted &&& mask)
/-- `old` with its low half replaced and its high half kept (spec R92, R96). -/
def withLow (old : U64) (w : U32) : U64 := mergeMasked old (w.setWidth 64) 0x00000000_FFFFFFFF
/-- `old` with its high half replaced and its low half kept (spec R93, R97). -/
def withHigh (old : U64) (w : U32) : U64 := mergeMasked old (w.setWidth 64 <<< 32) 0xFFFFFFFF_00000000

/-! ### The divider (spec R110) -/

/-- `DividerOf(p, s) = max(1, (p + 1) * s)` in exact natural arithmetic; 20 bits hold the result (spec R16). -/
def dividerOf (p : U12) (s : U8) : U20 := BitVec.ofNat 20 (max 1 ((p.toNat + 1) * s.toNat))

end Sys2Proof.Machine
end

