-- ==== Sys2Proof/Machine/Ops.lean ====
section
/-! DEFINITION. How a stimulus ends: the responses of the access pipeline (spec R80 stage 7), the one fault (spec
R140), and the block's outputs (spec R60, R101, R141). -/

namespace Sys2Proof.Machine

/-- The outcome of a stimulus of this machine. -/
abbrev Result := Host.Outcome State Fault Refusal

/-- A bus read answers `ok(v)` and changes nothing in the block (spec R45, R80). -/
def respondData (v : U32) (s : State) : Result := .next { s with response := .data v }

/-- A bus write leaves the block at `b` and answers `ok` (spec R46, R80). -/
def respondOk (b : Block) (s : State) : Result := .next { s with blk := b, response := .ok }

/-- An event leaves the block at `b` and has no response (spec R60). -/
def finishEvent (b : Block) (s : State) : Result := .next { s with blk := b, response := .none }

/-- `raise UnmappedRegister(kind, off)`: the block's one synchronous fault, and the only exception it takes (spec
R140). It saves nothing, changes no element and enters no handler (spec R52, R144); the fault is the whole response,
and the block serves the next stimulus as before. There is no return from it (spec R145). Log 3. -/
def raiseUnmapped (kind : AccessKind) (off : U32) (s : State) : Result :=
  .next { s with response := .fault kind off }

/-- The output `irq`: a level, equal to `S.line` at all times (spec R141). -/
def State.irq (s : State) : Bool := s.blk.line

/-- The four values the tick engine may read at any time (spec R101). -/
structure EngineView where
  enabled : Bool
  divider : U20
  compare : U64
  counter : U64
  deriving DecidableEq, Repr

/-- The live export to the tick engine: there is no second copy to go stale (spec R101, R113). -/
def State.engineView (s : State) : EngineView :=
  ⟨s.blk.enabled, s.blk.divider, s.blk.compare, s.blk.counter⟩

end Sys2Proof.Machine
end

