-- ==== Sys2Proof/Machine/Divider.lean ====
section
/-! DEFINITION. The Configuration register and the divider it derives (spec/42_divider.md). -/

namespace Sys2Proof.Machine

/-- `RD_CONFIGURATION` (spec R111). -/
def execRdConfiguration (s : State) : Result := respondData (configWord s.blk.prescaler s.blk.step) s

/-- The two fields stored, then the divider computed once from the values after the write (spec R112). -/
def Block.configure (b : Block) (wdata : U32) : Block :=
  { b with
    prescaler := prescalerField wdata
    step := stepField wdata
    divider := dividerOf (prescalerField wdata) (stepField wdata) }

/-- `WR_CONFIGURATION` (spec R112): no recompute point of the line (D8, log 11). -/
def execWrConfiguration (wdata : U32) (s : State) : Result := respondOk (s.blk.configure wdata) s

end Sys2Proof.Machine
end

