-- ==== Sys2Proof/Machine/Interrupt.lean ====
section
/-! DEFINITION. InterruptEnable, InterruptStatus, InterruptTest and the compare-reached notification
(spec/43_interrupt.md). -/

namespace Sys2Proof.Machine

/-- `RD_INTR_ENABLE` (spec R122). -/
def execRdIntrEnable (s : State) : Result := respondData (flagWord s.blk.intrEnable) s

/-- `WR_INTR_ENABLE` (spec R123). -/
def execWrIntrEnable (wdata : U32) (s : State) : Result :=
  respondOk { s.blk with intrEnable := bit0 wdata }.recompute s

/-- `RD_INTR_STATUS` (spec R124): the latched line, not recomputed. -/
def execRdIntrStatus (s : State) : Result := respondData (flagWord s.blk.line) s

/-- `WR_INTR_STATUS` (spec R125): all 32 bits ignored, the write only recomputes (D23, log 22). -/
def execWrIntrStatus (_wdata : U32) (s : State) : Result := respondOk s.blk.recompute s

/-- `RD_INTR_TEST` (spec R126): the write-only field reads 0 (D5, log 9). -/
def execRdIntrTest (s : State) : Result := respondData 0 s

/-- `WR_INTR_TEST` (spec R127): 1 forces the line and latches the force (D7, log 10); 0 does nothing. -/
def execWrIntrTest (wdata : U32) (s : State) : Result :=
  if bit0 wdata then respondOk { s.blk with testForce := true, line := true } s
  else respondOk s.blk s

/-- `CMPHIT` (spec R128): the block does not take the notification's word, it recomputes. -/
def execCmphit (s : State) : Result := finishEvent s.blk.recompute s

end Sys2Proof.Machine
end

