-- ==== Sys2Proof/Machine/RegisterDecode.lean ====
section
/-! DEFINITION. AlertTest, Control0 and the unmapped accesses (spec/40_register_decode.md). -/

namespace Sys2Proof.Machine

/-- `RD_ALERT_TEST` (spec R81; D4, log 8). -/
def execRdAlertTest (s : State) : Result := respondData 0 s

/-- `WR_ALERT_TEST` (spec R82; D4, log 8): the data is dropped, and the write is no recompute point. -/
def execWrAlertTest (_wdata : U32) (s : State) : Result := respondOk s.blk s

/-- `RD_CONTROL0` (spec R83). -/
def execRdControl0 (s : State) : Result := respondData (flagWord s.blk.enabled) s

/-- `WR_CONTROL0` (spec R84). -/
def execWrControl0 (wdata : U32) (s : State) : Result :=
  respondOk { s.blk with enabled := bit0 wdata }.recompute s

/-- `RD_UNMAPPED` (spec R85). -/
def execRdUnmapped (off : U32) (s : State) : Result := raiseUnmapped .read off s

/-- `WR_UNMAPPED` (spec R86): "the data is never looked at". -/
def execWrUnmapped (off _wdata : U32) (s : State) : Result := raiseUnmapped .write off s

end Sys2Proof.Machine
end

