-- ==== Sys2Proof/Machine/ResetEvent.lean ====
section
/-! DEFINITION. The `RESET` stimulus (spec/70_reset_and_hazards.md R160). -/

namespace Sys2Proof.Machine

/-- The element assignments of spec R160, each to its reset value, before its `Recompute()`. -/
def Block.cleared (b : Block) : Block :=
  { b with
    counter := 0x00000000_00000000
    compare := 0xFFFFFFFF_FFFFFFFF
    enabled := false
    prescaler := 0
    step := 0
    divider := 1
    intrEnable := false
    testForce := false }

/-- `RESET` (spec R160). What the environment has yet to ask stays asked (log 23). -/
def execReset (s : State) : Result := finishEvent s.blk.cleared.recompute s

end Sys2Proof.Machine
end

