-- ==== Sys2Proof/Machine/SplitAccumulator.lean ====
section
/-! DEFINITION. The counter and the compare value, each one 64-bit element seen through two halves, and the tick
engine's `ADV` (spec/41_split_accumulator.md). -/

namespace Sys2Proof.Machine

/-- `RD_VALUE_LOW` (spec R90). -/
def execRdValueLow (s : State) : Result := respondData (lowHalf s.blk.counter) s

/-- `RD_VALUE_HIGH` (spec R91). -/
def execRdValueHigh (s : State) : Result := respondData (highHalf s.blk.counter) s

/-- `WR_VALUE_LOW` (spec R92). -/
def execWrValueLow (wdata : U32) (s : State) : Result :=
  respondOk { s.blk with counter := withLow s.blk.counter wdata }.recompute s

/-- `WR_VALUE_HIGH` (spec R93). -/
def execWrValueHigh (wdata : U32) (s : State) : Result :=
  respondOk { s.blk with counter := withHigh s.blk.counter wdata }.recompute s

/-- `RD_COMPARE_LOW` (spec R94). -/
def execRdCompareLow (s : State) : Result := respondData (lowHalf s.blk.compare) s

/-- `RD_COMPARE_HIGH` (spec R95). -/
def execRdCompareHigh (s : State) : Result := respondData (highHalf s.blk.compare) s

/-- `WR_COMPARE_LOW` (spec R96): the line is judged against the mixture of the new low and the old high half. -/
def execWrCompareLow (wdata : U32) (s : State) : Result :=
  respondOk { s.blk with compare := withLow s.blk.compare wdata }.recompute s

/-- `WR_COMPARE_HIGH` (spec R97). -/
def execWrCompareHigh (wdata : U32) (s : State) : Result :=
  respondOk { s.blk with compare := withHigh s.blk.compare wdata }.recompute s

/-- `ADV d` (spec R99): addition modulo 2^64 and no recomputation (D10, log 13). With `S.enabled = 0` the engine has
no such step, and the run is stuck (log 5). -/
def execAdv (d : U64) (s : State) : Result :=
  if s.blk.enabled then finishEvent { s.blk with counter := s.blk.counter + d } s
  else .fault .advWhileDisabled

end Sys2Proof.Machine
end

