-- ==== Sys2Proof/Machine/Dispatch.lean ====
section
/-! DEFINITION. One stimulus, one meaning: the arms follow spec/opcode_table.json. -/

namespace Sys2Proof.Machine

def exec (i : Instr) (s : State) : Host.Outcome State Fault Refusal :=
  match i with
  | .rdAlertTest => Sys2Proof.Machine.execRdAlertTest s
  | .wrAlertTest w => Sys2Proof.Machine.execWrAlertTest w s
  | .rdControl0 => Sys2Proof.Machine.execRdControl0 s
  | .wrControl0 w => Sys2Proof.Machine.execWrControl0 w s
  | .rdConfiguration => Sys2Proof.Machine.execRdConfiguration s
  | .wrConfiguration w => Sys2Proof.Machine.execWrConfiguration w s
  | .rdValueLow => Sys2Proof.Machine.execRdValueLow s
  | .wrValueLow w => Sys2Proof.Machine.execWrValueLow w s
  | .rdValueHigh => Sys2Proof.Machine.execRdValueHigh s
  | .wrValueHigh w => Sys2Proof.Machine.execWrValueHigh w s
  | .rdCompareLow => Sys2Proof.Machine.execRdCompareLow s
  | .wrCompareLow w => Sys2Proof.Machine.execWrCompareLow w s
  | .rdCompareHigh => Sys2Proof.Machine.execRdCompareHigh s
  | .wrCompareHigh w => Sys2Proof.Machine.execWrCompareHigh w s
  | .rdIntrEnable => Sys2Proof.Machine.execRdIntrEnable s
  | .wrIntrEnable w => Sys2Proof.Machine.execWrIntrEnable w s
  | .rdIntrStatus => Sys2Proof.Machine.execRdIntrStatus s
  | .wrIntrStatus w => Sys2Proof.Machine.execWrIntrStatus w s
  | .rdIntrTest => Sys2Proof.Machine.execRdIntrTest s
  | .wrIntrTest w => Sys2Proof.Machine.execWrIntrTest w s
  | .rdUnmapped off => Sys2Proof.Machine.execRdUnmapped off s
  | .wrUnmapped off w => Sys2Proof.Machine.execWrUnmapped off w s
  | .reset => Sys2Proof.Machine.execReset s
  | .cmphit => Sys2Proof.Machine.execCmphit s
  | .adv d => Sys2Proof.Machine.execAdv d s

end Sys2Proof.Machine
end

