-- ==== Sys2Proof/WellFormed.lean ====
section
/-! DEFINITION. Which terms of `Instr` are stimuli of spec R60: the unmapped rows name an offset that holds no
register, and `ADV` has `1 <= d`. -/

namespace Sys2Proof

/-- The ten mapped offsets as the map of spec R41 lists them (written apart from the decoder of spec R63, so that
each can be held against the other). -/
def mappedOffsets : List U32 :=
  [0x000, 0x004, 0x100, 0x104, 0x108, 0x10C, 0x110, 0x114, 0x118, 0x11C]

/-- `off` holds no register (spec R41: "every other 32-bit offset is unmapped"). -/
def isUnmapped (off : U32) : Bool := !mappedOffsets.contains off

/-- The stimulus is one the block can be given. Three terms are not: an unmapped access at a mapped offset, read or
write (spec R85, R86), and `ADV 0` (spec R60, R67). Every value of `wdata` is admitted: oversized field values are
masked, not errors (spec R149). -/
def Instr.wf : Instr → Bool
  | .rdUnmapped off => isUnmapped off
  | .wrUnmapped off _ => isUnmapped off
  | .adv d => d != 0
  | .rdAlertTest => true
  | .wrAlertTest _ => true
  | .rdControl0 => true
  | .wrControl0 _ => true
  | .rdConfiguration => true
  | .wrConfiguration _ => true
  | .rdValueLow => true
  | .wrValueLow _ => true
  | .rdValueHigh => true
  | .wrValueHigh _ => true
  | .rdCompareLow => true
  | .wrCompareLow _ => true
  | .rdCompareHigh => true
  | .wrCompareHigh _ => true
  | .rdIntrEnable => true
  | .wrIntrEnable _ => true
  | .rdIntrStatus => true
  | .wrIntrStatus _ => true
  | .rdIntrTest => true
  | .wrIntrTest _ => true
  | .reset => true
  | .cmphit => true

end Sys2Proof
end

