-- ==== Sys2Proof/Machine/Environment.lean ====
section
/-! DEFINITION. Serving one request of the environment: a stimulus at the port, a bus master's access, the reference
engine's `TICK`, an after-match change of the counter. -/

namespace Sys2Proof.Machine

/-- A frame at the port: decoded, checked, executed. -/
def serveFrame (f : Frame) (s : State) : Result :=
  match decode f with
  | .ok i => if i.wf then exec i s else .refused .notAStimulus
  | .error r => .refused (.frameRejected r)

/-- A bus master's access: `MemRead(BASE + off, 4) = RegRead(off)` and `MemWrite(BASE + off, 4, v) = RegWrite(off, v)`
(spec 00_scope.md section 5, R53); "No other `n` is offered" (spec R42). Log 16. -/
def serveAccess (a : Access) (s : State) : Result :=
  if a.size = 4 then
    if Config.base ≤ a.addr ∧ a.addr - Config.base < 2 ^ 32 then
      exec (busAccess a.kind (BitVec.ofNat 32 (a.addr - Config.base)) a.wdata) s
    else .refused (.notRouted a.addr)
  else .refused (.accessWidth a.size)

/-- `ADV d` at block `b` reaches the compare value: from below it to at or above it, without wrapping past 2^64 (spec
R100 (c), D12). -/
def Block.reaches (b : Block) (d : U64) : Bool :=
  decide (b.counter.toNat < b.compare.toNat ∧ b.compare.toNat ≤ b.counter.toNat + d.toNat ∧
    b.counter.toNat + d.toNat < 2 ^ 64)

/-- The reference engine's `TICK d` (spec R70, R100 (d)): `ADV d`, then in the same atomic step `CMPHIT` if it
reached the compare value. Log 15. -/
def serveTick (d : U64) (s : State) : Result :=
  if d = 0 then .refused .notAStimulus
  else
    match execAdv d s with
    | .next t => if s.blk.reaches d then execCmphit t else .next t
    | .fault r => .fault r
    | .refused r => .refused r

/-- An engine that is not `free_running` sets the counter after a match (spec D11: "extra engine stimuli that set
`S.counter`"; U1: to "any value" after a match). DESIGN CHOICE (log 14): the spec does not say until when a match
counts, and the model judges it in the present state, `S.counter >= S.compare`, with no memory of earlier matches; so
after a match that a raised compare value or a wrapping `ADV` has ended, this faults as it does before any match. Like
`ADV`, it does not recompute, and it moves the counter only while enabled. -/
def serveEngineSet (v : U64) (s : State) : Result :=
  if s.blk.enabled && s.blk.reached then finishEvent { s.blk with counter := v } s
  else .fault .engineSetBeforeMatch

/-- One request, served completely (spec R4). -/
def serve (r : Request) (s : State) : Result :=
  match r with
  | .stimulus f => serveFrame f s
  | .master a => serveAccess a s
  | .tick d => serveTick d s
  | .engineSet v => serveEngineSet v s

/-- The oldest pending request, taken from the inbox and served (spec R4, R47); with none pending the block does
nothing on its own. -/
def serveNext (s : State) : Result :=
  match s.inbox with
  | [] => .refused .noStimulus
  | r :: rest => serve r { s with inbox := rest }

end Sys2Proof.Machine
end

