-- ==== Sys2Proof/Machine/Step.lean ====
section
/-! DEFINITION. The step of the machine, and how a stimulus is placed for the next step. -/

namespace Sys2Proof.Machine

/-- One step: "the complete handling of one stimulus from outside" (spec R4). -/
def step (s : State) : Host.Outcome State Fault Refusal := serveNext s

/-- `s` with the stimulus of the table word `w` (of `nbits` bits) as the next one the block handles. It stands for the
environment applying that stimulus; nothing else changes (log 1). -/
def State.withFetchWord (s : State) (nbits w : Nat) : State :=
  { s with inbox := .stimulus (Frame.ofWord nbits w) :: s.inbox }

end Sys2Proof.Machine
end

