-- ==== Sys2Proof/Safety.lean ====
section
/-! DEFINITION. The words the statements about timer_core use: the compound condition and the line it asks for,
written apart from the machine's own computation; the invariants of spec R35; the recompute points of spec R129; the
requests the reference engine makes. -/

namespace Sys2Proof.Machine

/-- "Enabled ∧ InterruptEnable ∧ CounterValue ≥ CompareValue" (spec R120), the values compared as numbers. -/
abbrev Block.Match (b : Block) : Prop :=
  b.enabled = true ∧ b.intrEnable = true ∧ b.compare.toNat ≤ b.counter.toNat

/-- The line a recomputation gives: "asserted iff" the compound condition holds "OR the test-forced condition is
active" (spec R35 I-line, R120). -/
def Block.lineFor (b : Block) : Bool := decide (b.Match ∨ b.testForce = true)

/-- `b` with the line its other elements ask for. -/
def Block.withLineFor (b : Block) : Block := { b with line := b.lineFor }

/-- The line is not stale (spec R131). -/
abbrev Block.LineCurrent (b : Block) : Prop := b.line = b.lineFor

/-- I-div (spec R35). -/
abbrev Block.DividerInv (b : Block) : Prop :=
  b.divider.toNat = max 1 ((b.prescaler.toNat + 1) * b.step.toNat) ∧
    1 ≤ b.divider.toNat ∧ b.divider.toNat ≤ 1044480

/-- I-force (spec R35). -/
abbrev Block.ForceInv (b : Block) : Prop := b.testForce = true → b.line = true

/-- The two invariants of spec R35 that hold in every reachable state with no proviso. -/
abbrev Block.Inv (b : Block) : Prop := b.DividerInv ∧ b.ForceInv

/-- The recompute points of spec R129, except `WR_INTR_TEST`. -/
def recomputes : Instr → Bool
  | .wrControl0 _ => true
  | .wrValueLow _ => true
  | .wrValueHigh _ => true
  | .wrCompareLow _ => true
  | .wrCompareHigh _ => true
  | .wrIntrEnable _ => true
  | .wrIntrStatus _ => true
  | .cmphit => true
  | .reset => true
  | .rdAlertTest => false
  | .wrAlertTest _ => false
  | .rdControl0 => false
  | .rdConfiguration => false
  | .wrConfiguration _ => false
  | .rdValueLow => false
  | .rdValueHigh => false
  | .rdCompareLow => false
  | .rdCompareHigh => false
  | .rdIntrEnable => false
  | .rdIntrStatus => false
  | .rdIntrTest => false
  | .wrIntrTest _ => false
  | .rdUnmapped _ => false
  | .wrUnmapped _ _ => false
  | .adv _ => false

/-- `WR_INTR_TEST` with `wdata[0] = 1`, the one stimulus that forces the line (spec R127). -/
def forcesLine : Instr → Bool
  | .wrIntrTest w => decide (w.toNat % 2 = 1)
  | _ => false

/-- The ten reads of the register file and the unmapped read (spec R45). -/
def isRead : Instr → Bool
  | .rdAlertTest => true
  | .rdControl0 => true
  | .rdConfiguration => true
  | .rdValueLow => true
  | .rdValueHigh => true
  | .rdCompareLow => true
  | .rdCompareHigh => true
  | .rdIntrEnable => true
  | .rdIntrStatus => true
  | .rdIntrTest => true
  | .rdUnmapped _ => true
  | _ => false

/-- The writes spec R46 names as idempotent. -/
def isIdempotentWrite : Instr → Bool
  | .wrControl0 _ => true
  | .wrConfiguration _ => true
  | .wrValueLow _ => true
  | .wrValueHigh _ => true
  | .wrCompareLow _ => true
  | .wrCompareHigh _ => true
  | .wrIntrEnable _ => true
  | .wrIntrTest _ => true
  | _ => false

/-- A stimulus after a stimulus, stopping at the first fault or refusal: a script of spec R69 and R70. -/
def runScript : List Instr → State → Result
  | [], s => .next s
  | i :: rest, s =>
    match exec i s with
    | .next t => runScript rest t
    | .fault r => .fault r
    | .refused r => .refused r

/-- `k` steps, stopping at the first fault or refusal (spec R172). -/
def runSteps : Nat → State → Result
  | 0, s => .next s
  | k + 1, s =>
    match step s with
    | .next t => runSteps k t
    | .fault r => .fault r
    | .refused r => .refused r

/-- A request that a system with the reference engine (spec R100 (d): `free_running`, `atomic`) makes when no `ADV`
wraps the counter: anything but a bare `ADV`, a `TICK` that wraps, or a counter set by another engine. -/
def Request.reference (b : Block) : Request → Prop
  | .stimulus f => ∀ d, decode f ≠ .ok (.adv d)
  | .master _ => True
  | .tick d => b.counter.toNat + d.toNat < 2 ^ 64
  | .engineSet _ => False

end Sys2Proof.Machine
end

