-- ==== Sys2Proof/Certificates/Slice0/Obligations.lean ====
section
/-! DEFINITION. The statements about timer_core for the provers, from the numbered rules of spec/. A statement of an
instruction's result gives the whole next state: what is not named in it is unchanged (the block's other elements, the
pending requests). The machine has no memory and no numbered registers to frame (spec R20, R40). -/

open Sys2Proof Sys2Proof.Machine

/-! ### Decoding -/

/-- Spec R63: an offset decodes to a register exactly when it is that register's offset, on all 32 bits. -/
def Obligations.RegisterDecodeIsTheOffsetMap : Prop :=
  ∀ (off : U32) (r : Reg), regDecode off = some r ↔
    (r, off.toNat) ∈ [(Reg.alertTest, 0x000), (Reg.control0, 0x004), (Reg.configuration, 0x100),
      (Reg.valueLow, 0x104), (Reg.valueHigh, 0x108), (Reg.compareLow, 0x10C), (Reg.compareHigh, 0x110),
      (Reg.intrEnable, 0x114), (Reg.intrStatus, 0x118), (Reg.intrTest, 0x11C)]

/-- Spec 30_encoding.md section 4 (R67), 20_memory.md section 1 (R41): the unmapped offsets are of three kinds, and
the well-formedness check and the decoder agree on them. -/
def Obligations.UnmappedOffsetsAreOfThreeKinds : Prop :=
  ∀ off : U32,
    (regDecode off = none ↔
      off.toNat % 4 ≠ 0 ∨ (0x008 ≤ off.toNat ∧ off.toNat ≤ 0x0FC) ∨ Config.windowSize ≤ off.toNat) ∧
    (isUnmapped off = true ↔ regDecode off = none)

/-- Decode and encode agree: no operand of any well-formed stimulus is lost in its frame (frames: log 2). -/
def Obligations.DecodeEncodeEveryStimulus : Prop :=
  ∀ i : Instr, i.wf = true → decode (encode i) = .ok i

/-- The other direction: a decoded frame's key and data are those of the stimulus it decodes to, apart from the key
bits and the data that spec R68 and R60 say an event or a read does not carry (frames: log 2). -/
def Obligations.EncodeGivesBackTheFrame : Prop :=
  ∀ (f : Frame) (i : Instr), decode f = .ok i →
    (f.key.toNat / 2 ^ 33 = 0 → (encode i).key = f.key) ∧
    (encode i).key.toNat / 2 ^ 33 = f.key.toNat / 2 ^ 33 ∧
    (f.key.toNat / 2 ^ 32 = 1 ∨ f.key.toNat / 2 ^ 33 = 3 → (encode i).data = f.data)

/-- The frames that are no stimulus: a key of more than 35 bits, a bus write of more than 32 bits (model's choice,
log 2). Every other frame decodes: no 35-bit key is without a meaning (spec R63, R68). -/
def Obligations.DecodeRejectsExactlyWideFrames : Prop :=
  ∀ f : Frame,
    (decode f = .error .keyTooWide ↔ 2 ^ 35 ≤ f.key.toNat) ∧
    (decode f = .error .wdataTooWide ↔ f.key.toNat / 2 ^ 32 = 1 ∧ 2 ^ 32 ≤ f.data.toNat)

/-- What decodes is a stimulus of spec R60, except `ADV 0`, whose key alone selects its row (spec R68; log 6). -/
def Obligations.DecodedStimulusIsWellFormed : Prop :=
  ∀ (f : Frame) (i : Instr), decode f = .ok i → i.wf = true ∨ i = .adv 0

/-- Words in the model's frame layout, one or more of each class and family: the key is that of spec R68's table (the
spec's decision D21); that it fills 40 bits and that the data stands from bit 40 up is the model's choice (log 2). -/
def Obligations.TableWordsDecode : Prop :=
  decodeTableWord 40 0x000000000 = some .rdAlertTest ∧
  decodeTableWord 72 (0x100000004 + 0xFFFFFFFE * 2 ^ 40) = some (.wrControl0 0xFFFFFFFE) ∧
  decodeTableWord 72 (0x100000100 + 0x00050009 * 2 ^ 40) = some (.wrConfiguration 0x00050009) ∧
  decodeTableWord 40 0x000000108 = some .rdValueHigh ∧
  decodeTableWord 72 (0x10000010C + 0xCAFEBABE * 2 ^ 40) = some (.wrCompareLow 0xCAFEBABE) ∧
  decodeTableWord 40 0x000000118 = some .rdIntrStatus ∧
  decodeTableWord 40 0x000001104 = some (.rdUnmapped 0x1104) ∧
  decodeTableWord 72 (0x100000008 + 0xDEADBEEF * 2 ^ 40) = some (.wrUnmapped 0x8 0xDEADBEEF) ∧
  decodeTableWord 40 0x200000000 = some .reset ∧
  decodeTableWord 40 0x400000000 = some .cmphit ∧
  decodeTableWord 104 (0x600000000 + 99 * 2 ^ 40) = some (.adv 99)

/-! ### Reads -/

/-- Spec 40_register_decode.md R81 and 43_interrupt.md R126: AlertTest and InterruptTest read 0 in every state (the
spec's decisions D4 and D5; log 8, 9). -/
def Obligations.AlertTestAndIntrTestReadZero : Prop :=
  ∀ s : State, exec .rdAlertTest s = .next { s with response := .data 0 } ∧
    exec .rdIntrTest s = .next { s with response := .data 0 }

/-- Spec R83. -/
def Obligations.Control0ReadsEnabled : Prop :=
  ∀ s : State, exec .rdControl0 s = .next { s with response := .data (if s.blk.enabled then 1 else 0) }

/-- Spec R111: Step in bits 23:16, Prescaler in bits 11:0, 0 in the reserved bits. -/
def Obligations.ConfigurationReadsItsFields : Prop :=
  ∀ s : State, exec .rdConfiguration s = .next { s with
    response := .data (BitVec.ofNat 32 (s.blk.step.toNat * 2 ^ 16 + s.blk.prescaler.toNat)) }

/-- Spec R90, R91: the live halves of the counter. -/
def Obligations.ValueReadsCounterHalves : Prop :=
  ∀ s : State,
    exec .rdValueLow s =
      .next { s with response := .data (BitVec.ofNat 32 (s.blk.counter.toNat % 2 ^ 32)) } ∧
    exec .rdValueHigh s =
      .next { s with response := .data (BitVec.ofNat 32 (s.blk.counter.toNat / 2 ^ 32)) }

/-- Spec R94, R95. -/
def Obligations.CompareReadsCompareHalves : Prop :=
  ∀ s : State,
    exec .rdCompareLow s =
      .next { s with response := .data (BitVec.ofNat 32 (s.blk.compare.toNat % 2 ^ 32)) } ∧
    exec .rdCompareHigh s =
      .next { s with response := .data (BitVec.ofNat 32 (s.blk.compare.toNat / 2 ^ 32)) }

/-- Spec R122. -/
def Obligations.IntrEnableReadsTheFlag : Prop :=
  ∀ s : State, exec .rdIntrEnable s = .next { s with response := .data (if s.blk.intrEnable then 1 else 0) }

/-- Spec R124: the line as driven, stale or not, and neither recomputed nor cleared by the read. -/
def Obligations.IntrStatusReadsTheLatchedLine : Prop :=
  ∀ s : State, exec .rdIntrStatus s = .next { s with response := .data (if s.blk.line then 1 else 0) }

/-- Spec R45: a read changes no state, and repeated with nothing between returns the same. -/
def Obligations.ReadsChangeNothingAndRepeat : Prop :=
  ∀ (i : Instr) (s t : State), isRead i = true → exec i s = .next t →
    t.blk = s.blk ∧ t.inbox = s.inbox ∧ t.irq = s.irq ∧ exec i t = .next t

/-! ### Writes and events -/

/-- Spec 40_register_decode.md R82: no effect, not even a recomputation (the spec's decision D4; log 8). -/
def Obligations.AlertTestWriteHasNoEffect : Prop :=
  ∀ (w : U32) (s : State), exec (.wrAlertTest w) s = .next { s with response := .ok }

/-- Spec R84: bit 0 is Enabled, the line is recomputed, nothing else changes. -/
def Obligations.Control0WriteSetsEnabledAndRecomputes : Prop :=
  ∀ (w : U32) (s : State), exec (.wrControl0 w) s = .next { s with
    response := .ok
    blk := { s.blk with enabled := decide (w.toNat % 2 = 1) }.withLineFor }

/-- Spec 42_divider.md R112: both fields, then the divider from the values after the write, exported at once (R113);
the line is not recomputed (the spec's decisions D8 and D27; log 11, 24). -/
def Obligations.ConfigurationWriteSetsFieldsAndDivider : Prop :=
  ∀ (w : U32) (s : State), ∃ t, exec (.wrConfiguration w) s = .next t ∧
    t = { s with
      response := .ok
      blk := { s.blk with
        prescaler := BitVec.ofNat 12 (w.toNat % 2 ^ 12)
        step := BitVec.ofNat 8 (w.toNat / 2 ^ 16 % 2 ^ 8)
        divider := t.blk.divider } } ∧
    t.blk.divider.toNat = max 1 ((w.toNat % 2 ^ 12 + 1) * (w.toNat / 2 ^ 16 % 2 ^ 8)) ∧
    t.engineView.divider = t.blk.divider

/-- Spec R92: the high half kept, the line recomputed. -/
def Obligations.ValueLowWriteKeepsHighHalf : Prop :=
  ∀ (w : U32) (s : State), exec (.wrValueLow w) s = .next { s with
    response := .ok
    blk := { s.blk with
      counter := BitVec.ofNat 64 (s.blk.counter.toNat / 2 ^ 32 * 2 ^ 32 + w.toNat) }.withLineFor }

/-- Spec R93: the low half kept, the line recomputed. -/
def Obligations.ValueHighWriteKeepsLowHalf : Prop :=
  ∀ (w : U32) (s : State), exec (.wrValueHigh w) s = .next { s with
    response := .ok
    blk := { s.blk with
      counter := BitVec.ofNat 64 (w.toNat * 2 ^ 32 + s.blk.counter.toNat % 2 ^ 32) }.withLineFor }

/-- Spec R96: the high half kept, the line judged against the mixed value. -/
def Obligations.CompareLowWriteKeepsHighHalf : Prop :=
  ∀ (w : U32) (s : State), exec (.wrCompareLow w) s = .next { s with
    response := .ok
    blk := { s.blk with
      compare := BitVec.ofNat 64 (s.blk.compare.toNat / 2 ^ 32 * 2 ^ 32 + w.toNat) }.withLineFor }

/-- Spec R97: the low half kept, the line judged against the mixed value. -/
def Obligations.CompareHighWriteKeepsLowHalf : Prop :=
  ∀ (w : U32) (s : State), exec (.wrCompareHigh w) s = .next { s with
    response := .ok
    blk := { s.blk with
      compare := BitVec.ofNat 64 (w.toNat * 2 ^ 32 + s.blk.compare.toNat % 2 ^ 32) }.withLineFor }

/-- Spec R123: bit 0 is the enable, the line is recomputed, nothing else changes. -/
def Obligations.IntrEnableWriteSetsFlagAndRecomputes : Prop :=
  ∀ (w : U32) (s : State), exec (.wrIntrEnable w) s = .next { s with
    response := .ok
    blk := { s.blk with intrEnable := decide (w.toNat % 2 = 1) }.withLineFor }

/-- Spec 43_interrupt.md R125: the data is ignored, the write only recomputes (the spec's decision D23; log 22). -/
def Obligations.IntrStatusWriteOnlyRecomputes : Prop :=
  ∀ (w : U32) (s : State), exec (.wrIntrStatus w) s = .next { s with
    response := .ok
    blk := s.blk.withLineFor }

/-- Spec 43_interrupt.md R127: bit 0 = 1 latches the force and raises the line, bit 0 = 0 does nothing (that the
force is a latch is the spec's decision D7; log 10). -/
def Obligations.IntrTestWriteForcesOrDoesNothing : Prop :=
  ∀ (w : U32) (s : State), exec (.wrIntrTest w) s = .next { s with
    response := .ok
    blk := if w.toNat % 2 = 1 then { s.blk with testForce := true, line := true } else s.blk }

/-- Spec R85, R86: the fault is the whole response, whatever the state and the data. -/
def Obligations.UnmappedAccessAnswersFault : Prop :=
  ∀ (off w : U32) (s : State),
    exec (.rdUnmapped off) s = .next { s with response := .fault .read off } ∧
    exec (.wrUnmapped off w) s = .next { s with response := .fault .write off }

/-- Spec R128: `CMPHIT` recomputes from the current values, in every state, and does nothing else. -/
def Obligations.CompareHitRecomputes : Prop :=
  ∀ s : State, exec .cmphit s = .next { s with response := .none, blk := s.blk.withLineFor }

/-- Spec 41_split_accumulator.md R99: while enabled, `ADV d` adds `d` modulo 2^64 and leaves the line alone (the
modulus and the open increment are the spec's decision D10; log 13). -/
def Obligations.AdvanceAddsModulo : Prop :=
  ∀ (d : U64) (s : State), s.blk.enabled = true → d.toNat ≠ 0 →
    exec (.adv d) s = .next { s with
      response := .none
      blk := { s.blk with counter := BitVec.ofNat 64 ((s.blk.counter.toNat + d.toNat) % 2 ^ 64) } }

/-- Spec 70_reset_and_hazards.md R160: from every state to `S0`, whose prescaler, step and test force are the spec's
decisions D6 and D7 (log 7, 10); what is still asked of the block stays asked (log 23). -/
def Obligations.ResetGivesTheResetBlock : Prop :=
  ∀ s : State, exec .reset s = .next { s with
    response := .none
    blk := { counter := 0, compare := BitVec.ofNat 64 (2 ^ 64 - 1), enabled := false, prescaler := 0, step := 0,
             divider := 1, intrEnable := false, testForce := false, line := false } }

/-- Spec 10_state.md section 4 (R33), 70_reset_and_hazards.md section 1 (R161): what the ten registers and `irq` read
right after reset (Configuration's 0 is the spec's decision D6, AlertTest's D4, InterruptTest's D5; log 7, 8, 9). -/
def Obligations.RegistersReadTheirResetValues : Prop :=
  (∀ row ∈ [(Instr.rdAlertTest, (0 : U32)), (.rdControl0, 0), (.rdConfiguration, 0), (.rdValueLow, 0),
      (.rdValueHigh, 0), (.rdCompareLow, 0xFFFFFFFF), (.rdCompareHigh, 0xFFFFFFFF), (.rdIntrEnable, 0),
      (.rdIntrStatus, 0), (.rdIntrTest, 0)],
    exec row.1 State.reset = .next { State.reset with response := .data row.2 }) ∧
  State.reset.irq = false ∧ State.reset.blk.divider.toNat = 1

/-! ### Procedures -/

/-- Spec R110: exact product, clamped to 1 exactly when the step is 0, and within the divider's range. -/
def Obligations.DividerIsClampedProduct : Prop :=
  ∀ (p : U12) (s : U8),
    (dividerOf p s).toNat = max 1 ((p.toNat + 1) * s.toNat) ∧
    ((p.toNat + 1) * s.toNat = 0 ↔ s.toNat = 0) ∧
    (p.toNat + 1) * s.toNat ≤ 1044480

/-- Spec R120: the line from the five elements the procedure reads, and no other element changed. -/
def Obligations.RecomputeGivesTheLineAndNothingElse : Prop :=
  ∀ b : Block,
    (b.recompute.line = true ↔
      (b.enabled = true ∧ b.intrEnable = true ∧ b.compare.toNat ≤ b.counter.toNat) ∨ b.testForce = true) ∧
    { b.recompute with line := b.line } = b

/-! ### Rules over all stimuli -/

/-- Spec 41_split_accumulator.md section 5 (R98 (c)): the two half-writes, in either order, rebuild the value, and
the half-reads return its halves. -/
def Obligations.HalfWritesRebuildTheValue : Prop :=
  ∀ (v : U64) (s : State),
    let lo := BitVec.ofNat 32 (v.toNat % 2 ^ 32)
    let hi := BitVec.ofNat 32 (v.toNat / 2 ^ 32)
    (∀ script ∈ [[Instr.wrValueLow lo, .wrValueHigh hi], [.wrValueHigh hi, .wrValueLow lo]],
      ∃ t, runScript script s = .next t ∧ t.blk.counter = v ∧ t.blk.compare = s.blk.compare ∧
        exec .rdValueLow t = .next { t with response := .data lo } ∧
        exec .rdValueHigh t = .next { t with response := .data hi }) ∧
    (∀ script ∈ [[Instr.wrCompareLow lo, .wrCompareHigh hi], [.wrCompareHigh hi, .wrCompareLow lo]],
      ∃ t, runScript script s = .next t ∧ t.blk.compare = v ∧ t.blk.counter = s.blk.counter ∧
        exec .rdCompareLow t = .next { t with response := .data lo } ∧
        exec .rdCompareHigh t = .next { t with response := .data hi })

/-- Spec 20_memory.md section 3 (R46): a write repeated with nothing between leaves what writing once left. -/
def Obligations.RepeatedWriteIsOneWrite : Prop :=
  ∀ (i : Instr) (s t : State), isIdempotentWrite i = true → exec i s = .next t → exec i t = .next t

/-- Spec 70_reset_and_hazards.md R162 and 10_state.md R33: reset ends in one block whatever it started from, and a
second reset changes nothing (the values: D6, D7). -/
def Obligations.ResetForgetsAndIsIdempotent : Prop :=
  ∀ s s' : State, ∃ t t', exec .reset s = .next t ∧ exec .reset s' = .next t' ∧
    t.blk = t'.blk ∧ t.blk = State.reset.blk ∧ exec .reset t = .next t

/-- Spec 10_state.md section 1 (R11 to R18): each element changes by its own writers only. That nothing but a write of
InterruptTest (and `RESET`) changes the test force is the spec's decision D7 (log 10). -/
def Obligations.OnlyItsWritersChangeAnElement : Prop :=
  ∀ (i : Instr) (s t : State), exec i s = .next t → i ≠ .reset →
    (t.blk.counter ≠ s.blk.counter → (∃ w, i = .wrValueLow w ∨ i = .wrValueHigh w) ∨ ∃ d, i = .adv d) ∧
    (t.blk.compare ≠ s.blk.compare → ∃ w, i = .wrCompareLow w ∨ i = .wrCompareHigh w) ∧
    (t.blk.enabled ≠ s.blk.enabled → ∃ w, i = .wrControl0 w) ∧
    (t.blk.prescaler ≠ s.blk.prescaler ∨ t.blk.step ≠ s.blk.step ∨ t.blk.divider ≠ s.blk.divider →
      ∃ w, i = .wrConfiguration w) ∧
    (t.blk.intrEnable ≠ s.blk.intrEnable → ∃ w, i = .wrIntrEnable w) ∧
    (t.blk.testForce ≠ s.blk.testForce → ∃ w, i = .wrIntrTest w)

/-- Spec 43_interrupt.md section 1 (R129): after a recompute point the line is what the elements ask for; every other
stimulus but the test force leaves it (which stimuli are recompute points is the spec's decision D8, that the line is
latched D9; log 11, 12). -/
def Obligations.LineMovesAtRecomputePointsOnly : Prop :=
  ∀ (i : Instr) (s t : State), exec i s = .next t →
    (recomputes i = true → t.blk.LineCurrent) ∧
    (recomputes i = false → forcesLine i = false → t.blk.line = s.blk.line) ∧
    (forcesLine i = true → t.blk.line = true)

/-- Spec 43_interrupt.md section 1 (R121): the transitions of the line's state machine, complete. The premise on the
test force is the invariant I-force of spec R35, stated of every step in `StepKeepsTheBlockInvariant`. What ends a
force is the spec's decision D7, which stimuli are recompute points D8, that the line is latched D9 (log 10, 11, 12).
-/
def Obligations.LineTransitionsAreThoseOfTheStateMachine : Prop :=
  ∀ (i : Instr) (s t : State), s.blk.ForceInv → exec i s = .next t →
    (s.blk.line = false →
      (t.blk.line = true ↔ (recomputes i = true ∧ t.blk.Match) ∨ forcesLine i = true)) ∧
    (s.blk.line = true →
      (t.blk.line = false ↔
        (recomputes i = true ∧ ¬ t.blk.Match ∧ t.blk.testForce = false) ∨ i = .reset))

/-- Spec 60_exceptions.md R140 and 20_memory.md R52: the fault comes from the unmapped accesses and nothing else, and
changes nothing (the fault's content is the spec's decision D13; log 3). -/
def Obligations.FaultOnlyFromUnmappedAndHarmless : Prop :=
  ∀ (i : Instr) (s t : State) (k : AccessKind) (off : U32), exec i s = .next t → t.response = .fault k off →
    t.blk = s.blk ∧ t.inbox = s.inbox ∧
      ((k = .read ∧ i = .rdUnmapped off) ∨ (k = .write ∧ ∃ w, i = .wrUnmapped off w))

/-- Spec 70_reset_and_hazards.md R172: every stimulus is accepted in every state, except `ADV` while not enabled,
which is stuck (93_implementation_defined.md; log 5). -/
def Obligations.EveryStimulusAcceptedButAdvWhileDisabled : Prop :=
  ∀ (i : Instr) (s : State),
    ((∃ t, exec i s = .next t) ↔ ¬ ∃ d, i = .adv d ∧ s.blk.enabled = false) ∧
    ((∃ d, i = .adv d ∧ s.blk.enabled = false) → exec i s = .fault .advWhileDisabled)

/-- Spec 10_state.md section 5 (R34) and R16: no stimulus shows the divider to software, so two states that differ in
it alone go on alike but for it. -/
def Obligations.DividerIsInvisibleToSoftware : Prop :=
  ∀ (i : Instr) (s t : State) (d : U20), exec i s = .next t →
    ∃ d' : U20, exec i { s with blk := { s.blk with divider := d } } =
      .next { t with blk := { t.blk with divider := d' } }

/-- Spec 70_reset_and_hazards.md R169: once forced, the line stays asserted through any script without a `RESET`
(that nothing else clears the force is the spec's decision D7; log 10). -/
def Obligations.ForcedLineStaysUntilReset : Prop :=
  ∀ (script : List Instr) (w : U32) (s t : State), w.toNat % 2 = 1 → .reset ∉ script →
    runScript (.wrIntrTest w :: script) s = .next t → t.blk.line = true ∧ t.blk.testForce = true

/-! ### Hazards -/

/-- Spec 70_reset_and_hazards.md R165: the glitch-free order of a compare update from one value above the counter to
another keeps the line low at every write. -/
def Obligations.GlitchFreeCompareUpdate : Prop :=
  ∀ (s : State) (target : U64), s.blk.testForce = false →
    s.blk.counter.toNat < s.blk.compare.toNat → s.blk.counter.toNat < target.toNat →
    ∃ t1 t2 t3,
      exec (.wrCompareLow 0xFFFFFFFF) s = .next t1 ∧ t1.blk.line = false ∧
      exec (.wrCompareHigh (BitVec.ofNat 32 (target.toNat / 2 ^ 32))) t1 = .next t2 ∧ t2.blk.line = false ∧
      exec (.wrCompareLow (BitVec.ofNat 32 (target.toNat % 2 ^ 32))) t2 = .next t3 ∧ t3.blk.line = false ∧
      t3.blk.compare = target

/-- Spec 70_reset_and_hazards.md R164: high, low, high again, with the counter running in between (by less than 2^32
in all) and the two high reads equal, joins to the counter as it was at the low read. -/
def Obligations.HighLowHighReadIsTrue : Prop :=
  ∀ (s : State) (d1 d2 : U64) (h1 l h2 : U32) (r1 a1 r2 a2 r3 : State),
    d1.toNat + d2.toNat < 2 ^ 32 →
    exec .rdValueHigh s = .next r1 → r1.response = .data h1 →
    exec (.adv d1) r1 = .next a1 →
    exec .rdValueLow a1 = .next r2 → r2.response = .data l →
    exec (.adv d2) r2 = .next a2 →
    exec .rdValueHigh a2 = .next r3 → r3.response = .data h2 →
    h1 = h2 → h1.toNat * 2 ^ 32 + l.toNat = a1.blk.counter.toNat

/-- Spec 70_reset_and_hazards.md R163: the initialisation order keeps the line low until its last write, which
asserts it exactly when the start value has reached the target. -/
def Obligations.InitialisationOrderIsQuiet : Prop :=
  ∀ (s : State) (cfg : U32) (start target : U64), s.blk.testForce = false →
    let script : List Instr := [.wrControl0 0, .wrIntrEnable 0, .wrConfiguration cfg,
      .wrValueLow (BitVec.ofNat 32 (start.toNat % 2 ^ 32)), .wrValueHigh (BitVec.ofNat 32 (start.toNat / 2 ^ 32)),
      .wrCompareLow (BitVec.ofNat 32 (target.toNat % 2 ^ 32)),
      .wrCompareHigh (BitVec.ofNat 32 (target.toNat / 2 ^ 32)), .wrIntrEnable 1]
    (∀ n, 1 ≤ n → n ≤ 8 → ∃ t, runScript (script.take n) s = .next t ∧ t.blk.line = false) ∧
    ∃ t, runScript (script ++ [.wrControl0 1]) s = .next t ∧
      t.blk.counter = start ∧ t.blk.compare = target ∧ t.blk.enabled = true ∧
      (t.blk.line = true ↔ target.toNat ≤ start.toNat)

/-! ### The step -/

/-- A step runs the stimulus its oldest pending frame decodes to, with that frame taken from the inbox (log 1). -/
def Obligations.StepRunsTheDecodedStimulus : Prop :=
  ∀ (s : State) (f : Frame) (rest : List Request) (i : Instr),
    s.inbox = .stimulus f :: rest → decode f = .ok i → i.wf = true →
    Sys2Proof.Machine.step s = exec i { s with inbox := rest }

/-- Spec 20_memory.md section 4 (R47), 00_scope.md section 3 (R4): one step serves the oldest request and that one
alone; with none pending there is no step (log 1, 4). -/
def Obligations.StepServesTheOldestRequestOnly : Prop :=
  (∀ s t : State, Sys2Proof.Machine.step s = .next t → ∃ r, s.inbox = r :: t.inbox) ∧
  (∀ s : State, s.inbox = [] ↔ Sys2Proof.Machine.step s = .refused .noStimulus)

/-- Spec 40_register_decode.md R85, R86 from the port: a bus access at any offset but the ten answers the fault, with
the block as it was (log 2, 3). -/
def Obligations.StepFaultsOnEveryOtherOffset : Prop :=
  ∀ (s : State) (f : Frame) (rest : List Request) (off : U32), s.inbox = .stimulus f :: rest →
    off.toNat ∉ [0x000, 0x004, 0x100, 0x104, 0x108, 0x10C, 0x110, 0x114, 0x118, 0x11C] →
    (f.key.toNat = off.toNat →
      Sys2Proof.Machine.step s = .next { s with inbox := rest, response := .fault .read off }) ∧
    (f.key.toNat = 2 ^ 32 + off.toNat → f.data.toNat < 2 ^ 32 →
      Sys2Proof.Machine.step s = .next { s with inbox := rest, response := .fault .write off })

/-- Spec 00_scope.md section 5 and 20_memory.md R53: a master's 4-byte access at `BASE + off` is the port's access
at `off` (R42, R51: D14, D18; log 16). -/
def Obligations.MasterAccessIsThePortAccess : Prop :=
  ∀ (s : State) (off w : U32) (k : AccessKind) (rest : List Request),
    s.inbox = .master ⟨k, Config.base + off.toNat, 4, w⟩ :: rest →
    let f : Frame := ⟨BitVec.ofNat 40 ((if k = .write then 2 ^ 32 else 0) + off.toNat), BitVec.ofNat 64 w.toNat⟩
    Sys2Proof.Machine.step s = Sys2Proof.Machine.step { s with inbox := .stimulus f :: rest }

/-- Spec 20_memory.md R42: an access of any other size is refused at the boundary (the spec's decision D14;
log 16). -/
def Obligations.OtherAccessSizesAreRefused : Prop :=
  ∀ (s : State) (a : Access) (rest : List Request), s.inbox = .master a :: rest → a.size ≠ 4 →
    Sys2Proof.Machine.step s = .refused (.accessWidth a.size)

/-- Spec 30_encoding.md R70 and 41_split_accumulator.md R100 (d): `TICK d` of the reference engine. The sum modulo
2^64, also on a wrap, is the spec's decision D10 (log 13), the rest its decisions D11, D12, D21 (log 14, 15). -/
def Obligations.TickAdvancesAndNotifiesOnReaching : Prop :=
  ∀ (s : State) (d : U64) (rest : List Request), s.inbox = .tick d :: rest → d.toNat ≠ 0 →
    s.blk.enabled = true →
    Sys2Proof.Machine.step s = .next { s with
      inbox := rest
      response := .none
      blk :=
        let b := { s.blk with counter := BitVec.ofNat 64 ((s.blk.counter.toNat + d.toNat) % 2 ^ 64) }
        if s.blk.counter.toNat < s.blk.compare.toNat ∧ s.blk.compare.toNat ≤ s.blk.counter.toNat + d.toNat ∧
            s.blk.counter.toNat + d.toNat < 2 ^ 64
        then b.withLineFor else b }

/-- Spec 92_eei_decisions.md D11, 93_implementation_defined.md U1: an after-match policy sets the counter to any
value, while enabled and after a match only, and does not recompute. This request is the model's form of that open
parameter, and 'after a match' as compare <= counter in the present state is the model's choice (log 14). -/
def Obligations.AfterMatchPolicySetsTheCounterOnly : Prop :=
  ∀ (s : State) (v : U64) (rest : List Request), s.inbox = .engineSet v :: rest →
    Sys2Proof.Machine.step s =
      if s.blk.enabled = true ∧ s.blk.compare.toNat ≤ s.blk.counter.toNat
      then .next { s with inbox := rest, response := .none, blk := { s.blk with counter := v } }
      else .fault .engineSetBeforeMatch

/-! ### Invariants -/

/-- I-div and I-force of spec R35 hold at reset. -/
def Obligations.ResetMeetsTheBlockInvariant : Prop := State.reset.blk.Inv

/-- I-div and I-force of spec R35 are kept by every step, whatever the environment asks. -/
def Obligations.StepKeepsTheBlockInvariant : Prop :=
  ∀ s t : State, s.blk.Inv → Sys2Proof.Machine.step s = .next t → t.blk.Inv

/-- Spec 43_interrupt.md R127 and 10_state.md R18 as a rule of the whole machine: a step that ends a test force is a
`RESET` (the spec's decision D7; log 10). -/
def Obligations.OnlyResetEndsATestForce : Prop :=
  ∀ s t : State, Sys2Proof.Machine.step s = .next t → s.blk.testForce = true → t.blk.testForce = false →
    ∃ f, s.inbox = .stimulus f :: t.inbox ∧ decode f = .ok .reset

/-- Spec 43_interrupt.md section 1 (R131): under the reference engine and without a wrap, the line is never stale: a
step keeps the "iff" of the source (D9, D11, D12; log 12, 14, 15). -/
def Obligations.ReferenceStepKeepsTheLineCurrent : Prop :=
  ∀ (s t : State), s.blk.LineCurrent → (∀ r ∈ s.inbox.head?, r.reference s.blk) →
    Sys2Proof.Machine.step s = .next t → t.blk.LineCurrent

/-- Spec 43_interrupt.md section 1 (R131), the theorem it names: on every run from reset whose requests are those of
a reference engine that does not wrap, whatever the script, the line is asserted iff the compound condition holds or
the test force is set (D9, D11, D12). -/
def Obligations.ReferenceRunKeepsTheLineCurrent : Prop :=
  ∀ (script : List Request) (k : Nat) (t : State),
    (∀ (j : Nat) (u : State), j < k →
      runSteps j { State.reset with inbox := script } = .next u →
      ∀ r ∈ u.inbox.head?, r.reference u.blk) →
    runSteps k { State.reset with inbox := script } = .next t →
    (t.irq = true ↔ t.blk.Match ∨ t.blk.testForce = true)

/-- Spec 43_interrupt.md section 1 (R131), the second point: the line goes stale in exactly three situations: a bare
`ADV` that reached the compare value, an `ADV` that wrapped, another engine that set the counter after a match (D9 to
D12; log 12 to 15; that 'after a match' is judged in the present state is the model's choice, log 14). -/
def Obligations.LineGoesStaleInThreeSituations : Prop :=
  ∀ s t : State, s.blk.LineCurrent → Sys2Proof.Machine.step s = .next t → ¬ t.blk.LineCurrent →
    ∃ r, s.inbox = r :: t.inbox ∧
      ((t.blk.line = false ∧ t.blk.Match ∧
          ∃ f d, r = .stimulus f ∧ decode f = .ok (.adv d) ∧ s.blk.counter.toNat < s.blk.compare.toNat ∧
            s.blk.compare.toNat ≤ s.blk.counter.toNat + d.toNat) ∨
        (t.blk.line = true ∧ ¬ t.blk.Match ∧ s.blk.Match ∧
          ∃ d, (r = .tick d ∨ ∃ f, r = .stimulus f ∧ decode f = .ok (.adv d)) ∧
            2 ^ 64 ≤ s.blk.counter.toNat + d.toNat) ∨
        (t.blk.line = true ∧ ¬ t.blk.Match ∧ s.blk.Match ∧ ∃ v, r = .engineSet v ∧ v.toNat < s.blk.compare.toNat))
end

