-- ==== Sys2Proof/Laws/Decode.lean ====
section
/-! SUPPORT. The register decoder at each mapped offset and away from them, the accesses it names, and a frame's
fields as numbers. Cite these; do not split the decoder's chain of tests. -/

namespace Sys2Proof

theorem mem_mappedOffsets {off : U32} : off ∈ mappedOffsets ↔
    off = 0x000 ∨ off = 0x004 ∨ off = 0x100 ∨ off = 0x104 ∨ off = 0x108 ∨
      off = 0x10C ∨ off = 0x110 ∨ off = 0x114 ∨ off = 0x118 ∨ off = 0x11C := by
  simp only [mappedOffsets, List.mem_cons, List.not_mem_nil, or_false]

theorem isUnmapped_eq_true {off : U32} : isUnmapped off = true ↔ off ∉ mappedOffsets := by
  simp only [isUnmapped, Bool.not_eq_true', List.contains_eq_mem, decide_eq_false_iff_not]

/-- Away from the ten offsets the decoder answers `Unmapped`. -/
theorem regDecode_of_notMem {off : U32} (h : off ∉ mappedOffsets) : regDecode off = none := by
  rw [mem_mappedOffsets] at h
  simp only [not_or] at h
  obtain ⟨h0, h1, h2, h3, h4, h5, h6, h7, h8, h9⟩ := h
  unfold regDecode
  by_cases ha : off.extractLsb' 0 2 ≠ 0
  · rw [if_pos ha]
  · rw [if_neg ha, if_neg h0, if_neg h1, if_neg h2, if_neg h3, if_neg h4, if_neg h5, if_neg h6, if_neg h7,
      if_neg h8, if_neg h9]

/-- At the ten offsets it answers a register. -/
theorem regDecode_isSome_of_mem {off : U32} (h : off ∈ mappedOffsets) : (regDecode off).isSome = true := by
  rw [mem_mappedOffsets] at h
  rcases h with rfl | rfl | rfl | rfl | rfl | rfl | rfl | rfl | rfl | rfl <;> rfl

theorem busRead_of_unmapped {off : U32} (h : off ∉ mappedOffsets) : busRead off = .rdUnmapped off := by
  simp only [busRead, regDecode_of_notMem h]

theorem busWrite_of_unmapped {off w : U32} (h : off ∉ mappedOffsets) : busWrite off w = .wrUnmapped off w := by
  simp only [busWrite, regDecode_of_notMem h]

theorem Frame.port_toNat (f : Frame) : f.port.toNat = f.key.toNat / 2 ^ 33 % 4 := by
  simp [Frame.port, Nat.shiftRight_eq_div_pow]

theorem Frame.we_iff (f : Frame) : f.we = true ↔ f.key.toNat / 2 ^ 32 % 2 = 1 := by
  simp [Frame.we, BitVec.getLsbD, Nat.testBit, Nat.shiftRight_eq_div_pow]

theorem Frame.off_toNat (f : Frame) : f.off.toNat = f.key.toNat % 2 ^ 32 := by
  simp [Frame.off]

theorem Frame.wdata_toNat (f : Frame) : f.wdata.toNat = f.data.toNat % 2 ^ 32 := by
  simp [Frame.wdata]

theorem Frame.keyFits_iff (f : Frame) : f.keyFits = true ↔ f.key.toNat < 2 ^ 35 := by
  have := f.key.isLt
  simp [Frame.keyFits, ← BitVec.toNat_inj, Nat.shiftRight_eq_div_pow]
  omega

theorem Frame.wdataFits_iff (f : Frame) : f.wdataFits = true ↔ f.data.toNat < 2 ^ 32 := by
  have := f.data.isLt
  simp [Frame.wdataFits, ← BitVec.toNat_inj, Nat.shiftRight_eq_div_pow]
  omega

end Sys2Proof
end

