-- ==== Sys2Proof/Laws/Operands.lean ====
section
/-! SUPPORT. The field and half operations as numbers. -/

namespace Sys2Proof.Machine

theorem lowHalf_toNat (v : U64) : (lowHalf v).toNat = v.toNat % 2 ^ 32 := by
  simp [lowHalf]

theorem highHalf_toNat (v : U64) : (highHalf v).toNat = v.toNat / 2 ^ 32 := by
  have := v.isLt
  simp [highHalf, Nat.shiftRight_eq_div_pow]
  omega

theorem prescalerField_toNat (w : U32) : (prescalerField w).toNat = w.toNat % 2 ^ 12 := by
  simp [prescalerField]

theorem stepField_toNat (w : U32) : (stepField w).toNat = w.toNat / 2 ^ 16 % 2 ^ 8 := by
  simp [stepField, Nat.shiftRight_eq_div_pow]

theorem bit0_iff (w : U32) : bit0 w = true ↔ w.toNat % 2 = 1 := by
  simp [bit0, BitVec.getLsbD, Nat.testBit_zero]

theorem flagWord_eq (b : Bool) : flagWord b = if b then 1 else 0 := by
  cases b <;> rfl

/-- The low half of a 64-bit element after a low write is the word written. -/
@[simp] theorem lowHalf_withLow (v : U64) (w : U32) : lowHalf (withLow v w) = w := by
  apply BitVec.eq_of_getLsbD_eq
  intro i hi
  rw [lowHalf, withLow, mergeMasked]
  interval_cases i <;> simp

@[simp] theorem highHalf_withLow (v : U64) (w : U32) : highHalf (withLow v w) = highHalf v := by
  apply BitVec.eq_of_getLsbD_eq
  intro i hi
  rw [highHalf, withLow, mergeMasked]
  interval_cases i <;> simp [highHalf]

@[simp] theorem highHalf_withHigh (v : U64) (w : U32) : highHalf (withHigh v w) = w := by
  apply BitVec.eq_of_getLsbD_eq
  intro i hi
  rw [highHalf, withHigh, mergeMasked]
  interval_cases i <;> simp

@[simp] theorem lowHalf_withHigh (v : U64) (w : U32) : lowHalf (withHigh v w) = lowHalf v := by
  apply BitVec.eq_of_getLsbD_eq
  intro i hi
  rw [lowHalf, withHigh, mergeMasked]
  interval_cases i <;> simp [lowHalf]

theorem toNat_halves (v : U64) : v.toNat = (highHalf v).toNat * 2 ^ 32 + (lowHalf v).toNat := by
  rw [lowHalf_toNat, highHalf_toNat]; omega

/-- Two 64-bit elements with the same halves are the same. -/
theorem eq_of_halves {v w : U64} (hl : lowHalf v = lowHalf w) (hh : highHalf v = highHalf w) : v = w := by
  apply BitVec.eq_of_toNat_eq
  rw [toNat_halves v, toNat_halves w, hl, hh]

theorem withLow_toNat (v : U64) (w : U32) :
    (withLow v w).toNat = v.toNat / 2 ^ 32 * 2 ^ 32 + w.toNat := by
  rw [toNat_halves (withLow v w), lowHalf_withLow, highHalf_withLow, highHalf_toNat]

theorem withHigh_toNat (v : U64) (w : U32) :
    (withHigh v w).toNat = w.toNat * 2 ^ 32 + v.toNat % 2 ^ 32 := by
  rw [toNat_halves (withHigh v w), lowHalf_withHigh, highHalf_withHigh, lowHalf_toNat]

/-- The exact product fits the 20-bit divider (spec R114: at most 1,044,480). -/
theorem divider_product_le (p : U12) (s : U8) : (p.toNat + 1) * s.toNat ≤ 1044480 := by
  have hp : p.toNat + 1 ≤ 4096 := p.isLt
  have hs : s.toNat ≤ 255 := by have := s.isLt; omega
  exact Nat.mul_le_mul hp hs

end Sys2Proof.Machine
end

