-- ==== Sys2Proof/Laws/State.lean ====
section
/-! SUPPORT. One lemma per element and update of the block, and per field and update of State: no later proof unfolds a
record update. -/

namespace Sys2Proof.Machine

section recompute
variable (b : Block)
@[simp] theorem Block.recompute_counter : b.recompute.counter = b.counter := rfl
@[simp] theorem Block.recompute_compare : b.recompute.compare = b.compare := rfl
@[simp] theorem Block.recompute_enabled : b.recompute.enabled = b.enabled := rfl
@[simp] theorem Block.recompute_prescaler : b.recompute.prescaler = b.prescaler := rfl
@[simp] theorem Block.recompute_step : b.recompute.step = b.step := rfl
@[simp] theorem Block.recompute_divider : b.recompute.divider = b.divider := rfl
@[simp] theorem Block.recompute_intrEnable : b.recompute.intrEnable = b.intrEnable := rfl
@[simp] theorem Block.recompute_testForce : b.recompute.testForce = b.testForce := rfl
@[simp] theorem Block.recompute_line : b.recompute.line = (b.cond || b.testForce) := rfl
end recompute

section configure
variable (b : Block) (w : U32)
@[simp] theorem Block.configure_counter : (b.configure w).counter = b.counter := rfl
@[simp] theorem Block.configure_compare : (b.configure w).compare = b.compare := rfl
@[simp] theorem Block.configure_enabled : (b.configure w).enabled = b.enabled := rfl
@[simp] theorem Block.configure_prescaler : (b.configure w).prescaler = prescalerField w := rfl
@[simp] theorem Block.configure_step : (b.configure w).step = stepField w := rfl
@[simp] theorem Block.configure_divider :
    (b.configure w).divider = dividerOf (prescalerField w) (stepField w) := rfl
@[simp] theorem Block.configure_intrEnable : (b.configure w).intrEnable = b.intrEnable := rfl
@[simp] theorem Block.configure_testForce : (b.configure w).testForce = b.testForce := rfl
@[simp] theorem Block.configure_line : (b.configure w).line = b.line := rfl
end configure

section cleared
variable (b : Block)
@[simp] theorem Block.cleared_counter : b.cleared.counter = 0 := rfl
@[simp] theorem Block.cleared_compare : b.cleared.compare = 0xFFFFFFFFFFFFFFFF#64 := rfl
@[simp] theorem Block.cleared_enabled : b.cleared.enabled = false := rfl
@[simp] theorem Block.cleared_prescaler : b.cleared.prescaler = 0 := rfl
@[simp] theorem Block.cleared_step : b.cleared.step = 0 := rfl
@[simp] theorem Block.cleared_divider : b.cleared.divider = 1 := rfl
@[simp] theorem Block.cleared_intrEnable : b.cleared.intrEnable = false := rfl
@[simp] theorem Block.cleared_testForce : b.cleared.testForce = false := rfl
@[simp] theorem Block.cleared_line : b.cleared.line = b.line := rfl
end cleared

section reset
@[simp] theorem State.reset_blk : State.reset.blk = Block.s0 := rfl
@[simp] theorem State.reset_response : State.reset.response = .none := rfl
@[simp] theorem State.reset_inbox : State.reset.inbox = [] := rfl
end reset

section views
variable (s : State)
@[simp] theorem State.irq_eq : s.irq = s.blk.line := rfl
@[simp] theorem State.engineView_enabled : s.engineView.enabled = s.blk.enabled := rfl
@[simp] theorem State.engineView_divider : s.engineView.divider = s.blk.divider := rfl
@[simp] theorem State.engineView_compare : s.engineView.compare = s.blk.compare := rfl
@[simp] theorem State.engineView_counter : s.engineView.counter = s.blk.counter := rfl
end views

end Sys2Proof.Machine
end

