-- ==== Sys2Proof/Laws/Ops.lean ====
section
/-! SUPPORT. Once for each shared operation, everything it can do. -/

namespace Sys2Proof.Machine

theorem respondData_next {v : U32} {s t : State} (h : respondData v s = .next t) :
    t.blk = s.blk ∧ t.response = .data v ∧ t.inbox = s.inbox := by
  cases h; exact ⟨rfl, rfl, rfl⟩

theorem respondOk_next {b : Block} {s t : State} (h : respondOk b s = .next t) :
    t.blk = b ∧ t.response = .ok ∧ t.inbox = s.inbox := by
  cases h; exact ⟨rfl, rfl, rfl⟩

theorem finishEvent_next {b : Block} {s t : State} (h : finishEvent b s = .next t) :
    t.blk = b ∧ t.response = .none ∧ t.inbox = s.inbox := by
  cases h; exact ⟨rfl, rfl, rfl⟩

theorem raiseUnmapped_next {k : AccessKind} {off : U32} {s t : State} (h : raiseUnmapped k off s = .next t) :
    t.blk = s.blk ∧ t.response = .fault k off ∧ t.inbox = s.inbox := by
  cases h; exact ⟨rfl, rfl, rfl⟩

/-- `ADV` runs exactly while enabled. -/
theorem execAdv_next {d : U64} {s t : State} (h : execAdv d s = .next t) :
    s.blk.enabled = true ∧ t = { s with blk := { s.blk with counter := s.blk.counter + d }, response := .none } := by
  unfold execAdv at h
  split at h
  · cases h; exact ⟨‹_›, rfl⟩
  · cases h

theorem Block.reached_iff (b : Block) : b.reached = true ↔ b.compare.toNat ≤ b.counter.toNat := by
  simp [Block.reached, BitVec.ule]

theorem Block.cond_iff (b : Block) :
    b.cond = true ↔ b.enabled = true ∧ b.intrEnable = true ∧ b.compare.toNat ≤ b.counter.toNat := by
  simp [Block.cond, Block.reached_iff, and_assoc]

/-- Recomputing a second time changes nothing. -/
@[simp] theorem Block.recompute_recompute (b : Block) : b.recompute.recompute = b.recompute := rfl

/-- A cleared block asks for a low line: neither term of the line can hold (spec R160). -/
@[simp] theorem Block.cleared_recompute (b : Block) : b.cleared.recompute = Block.s0 := rfl

/-- Serving a `TICK`: refused, stuck as its `ADV` is, or the advanced block with or without a recomputation. -/
theorem serveTick_next {d : U64} {s t : State} (h : serveTick d s = .next t) :
    d ≠ 0 ∧ s.blk.enabled = true ∧ t.response = .none ∧ t.inbox = s.inbox ∧
      t.blk = (let b : Block := { s.blk with counter := s.blk.counter + d }
               if s.blk.reaches d then b.recompute else b) := by
  unfold serveTick at h
  split at h
  · cases h
  · cases he : execAdv d s with
    | next u =>
      obtain ⟨hen, rfl⟩ := execAdv_next he
      simp only [he] at h
      refine ⟨‹¬d = 0›, hen, ?_⟩
      split at h <;> cases h <;> simp [*]
    | fault r => simp [he] at h
    | refused r => simp [he] at h

theorem serveEngineSet_next {v : U64} {s t : State} (h : serveEngineSet v s = .next t) :
    s.blk.enabled = true ∧ s.blk.reached = true ∧
      t = { s with blk := { s.blk with counter := v }, response := .none } := by
  unfold serveEngineSet at h
  split at h
  · cases h; simp_all
  · cases h

/-- A bus access that is served is one of four bytes at an address routed to the block. -/
theorem serveAccess_next {a : Access} {s t : State} (h : serveAccess a s = .next t) :
    a.size = 4 ∧ Config.base ≤ a.addr ∧ a.addr - Config.base < 2 ^ 32 ∧
      exec (busAccess a.kind (BitVec.ofNat 32 (a.addr - Config.base)) a.wdata) s = .next t := by
  unfold serveAccess at h
  split at h
  · split at h
    · exact ⟨‹_›, ‹_ ∧ _›.1, ‹_ ∧ _›.2, h⟩
    · cases h
  · cases h

/-- A frame that is served decodes to a well-formed stimulus, which is executed. -/
theorem serveFrame_next {f : Frame} {s t : State} (h : serveFrame f s = .next t) :
    ∃ i, decode f = .ok i ∧ i.wf = true ∧ exec i s = .next t := by
  unfold serveFrame at h
  split at h
  · split at h
    · exact ⟨_, ‹_›, ‹_›, h⟩
    · cases h
  · cases h

end Sys2Proof.Machine
end

