-- ==== Sys2Proof/Laws/PerInstr.lean ====
section
/-! SUPPORT. The family SelectsItsRow: the key a stimulus is encoded with selects its row of spec/opcode_table.json,
`(key & mask) == match` (spec R68). -/

namespace Sys2Proof.Laws.SelectsItsRow

/-- A row's `match`, as spec/opcode_table.json gives it. -/
def rowMatch : Instr → BitVec 40
  | .rdAlertTest => 0x000000000
  | .wrAlertTest _ => 0x100000000
  | .rdControl0 => 0x000000004
  | .wrControl0 _ => 0x100000004
  | .rdConfiguration => 0x000000100
  | .wrConfiguration _ => 0x100000100
  | .rdValueLow => 0x000000104
  | .wrValueLow _ => 0x100000104
  | .rdValueHigh => 0x000000108
  | .wrValueHigh _ => 0x100000108
  | .rdCompareLow => 0x00000010C
  | .wrCompareLow _ => 0x10000010C
  | .rdCompareHigh => 0x000000110
  | .wrCompareHigh _ => 0x100000110
  | .rdIntrEnable => 0x000000114
  | .wrIntrEnable _ => 0x100000114
  | .rdIntrStatus => 0x000000118
  | .wrIntrStatus _ => 0x100000118
  | .rdIntrTest => 0x00000011C
  | .wrIntrTest _ => 0x10000011C
  | .rdUnmapped _ => 0x000000000
  | .wrUnmapped _ _ => 0x100000000
  | .reset => 0x200000000
  | .cmphit => 0x400000000
  | .adv _ => 0x600000000

/-- A row's `mask`: every key bit for a mapped access, port and `we` for an unmapped one, the port for an event. -/
def rowMask : Instr → BitVec 40
  | .rdUnmapped _ => 0x700000000
  | .wrUnmapped _ _ => 0x700000000
  | .reset => 0x600000000
  | .cmphit => 0x600000000
  | .adv _ => 0x600000000
  | _ => 0x7FFFFFFFF

/-- The stimulus's encoding selects its own row. -/
def Statement (i : Instr) : Prop := (encode i).key &&& rowMask i = rowMatch i

theorem unmappedMask_low : ∀ i < 32, (0x700000000#40).getLsbD i = false := by decide
theorem weBit_low : ∀ i < 32, false = (0x100000000#40).getLsbD i := by decide
theorem weBit_and_mask : ∀ i < 40, ((0x100000000#40).getLsbD i && (0x700000000#40).getLsbD i) =
    (0x100000000#40).getLsbD i := by decide

theorem rdAlertTest : Statement .rdAlertTest := rfl
theorem wrAlertTest (wdata : U32) : Statement (.wrAlertTest wdata) := by
  show (0x100000000 : BitVec 40) &&& 0x7FFFFFFFF = 0x100000000
  decide
theorem rdControl0 : Statement .rdControl0 := rfl
theorem wrControl0 (wdata : U32) : Statement (.wrControl0 wdata) := by
  show (0x100000004 : BitVec 40) &&& 0x7FFFFFFFF = 0x100000004
  decide
theorem rdConfiguration : Statement .rdConfiguration := rfl
theorem wrConfiguration (wdata : U32) : Statement (.wrConfiguration wdata) := by
  show (0x100000100 : BitVec 40) &&& 0x7FFFFFFFF = 0x100000100
  decide
theorem rdValueLow : Statement .rdValueLow := rfl
theorem wrValueLow (wdata : U32) : Statement (.wrValueLow wdata) := by
  show (0x100000104 : BitVec 40) &&& 0x7FFFFFFFF = 0x100000104
  decide
theorem rdValueHigh : Statement .rdValueHigh := rfl
theorem wrValueHigh (wdata : U32) : Statement (.wrValueHigh wdata) := by
  show (0x100000108 : BitVec 40) &&& 0x7FFFFFFFF = 0x100000108
  decide
theorem rdCompareLow : Statement .rdCompareLow := rfl
theorem wrCompareLow (wdata : U32) : Statement (.wrCompareLow wdata) := by
  show (0x10000010C : BitVec 40) &&& 0x7FFFFFFFF = 0x10000010C
  decide
theorem rdCompareHigh : Statement .rdCompareHigh := rfl
theorem wrCompareHigh (wdata : U32) : Statement (.wrCompareHigh wdata) := by
  show (0x100000110 : BitVec 40) &&& 0x7FFFFFFFF = 0x100000110
  decide
theorem rdIntrEnable : Statement .rdIntrEnable := rfl
theorem wrIntrEnable (wdata : U32) : Statement (.wrIntrEnable wdata) := by
  show (0x100000114 : BitVec 40) &&& 0x7FFFFFFFF = 0x100000114
  decide
theorem rdIntrStatus : Statement .rdIntrStatus := rfl
theorem wrIntrStatus (wdata : U32) : Statement (.wrIntrStatus wdata) := by
  show (0x100000118 : BitVec 40) &&& 0x7FFFFFFFF = 0x100000118
  decide
theorem rdIntrTest : Statement .rdIntrTest := rfl
theorem wrIntrTest (wdata : U32) : Statement (.wrIntrTest wdata) := by
  show (0x10000011C : BitVec 40) &&& 0x7FFFFFFFF = 0x10000011C
  decide
theorem rdUnmapped (off : U32) : Statement (.rdUnmapped off) := by
  show off.setWidth 40 &&& 0x700000000#40 = 0x000000000#40
  apply BitVec.eq_of_getLsbD_eq
  intro i hi
  rw [BitVec.getLsbD_and, BitVec.getLsbD_setWidth]
  by_cases h : i < 32
  · rw [unmappedMask_low i h, Bool.and_false, BitVec.getLsbD_zero]
  · rw [BitVec.getLsbD_of_ge off i (by omega), Bool.and_false, Bool.false_and, BitVec.getLsbD_zero]
theorem wrUnmapped (off wdata : U32) : Statement (.wrUnmapped off wdata) := by
  show (0x100000000#40 ||| off.setWidth 40) &&& 0x700000000#40 = 0x100000000#40
  apply BitVec.eq_of_getLsbD_eq
  intro i hi
  rw [BitVec.getLsbD_and, BitVec.getLsbD_or, BitVec.getLsbD_setWidth]
  by_cases h : i < 32
  · rw [unmappedMask_low i h, Bool.and_false, weBit_low i h]
  · rw [BitVec.getLsbD_of_ge off i (by omega), Bool.and_false, Bool.or_false, weBit_and_mask i hi]
theorem reset : Statement .reset := rfl
theorem cmphit : Statement .cmphit := rfl
theorem adv (d : U64) : Statement (.adv d) := by
  show (0x600000000 : BitVec 40) &&& 0x600000000 = 0x600000000
  decide

end Sys2Proof.Laws.SelectsItsRow
end

