-- ==== Sys2Proof/Tests/Slice0.lean ====
section
/-! SUPPORT. Small tests of the model, one step each. Expected results are the spec's own: the keys of
30_encoding.md R68, the vectors of 95_test_vectors.md (named by section or program line), the rules' examples. The
witnesses at the end show that the statements' hypotheses can be met. -/

namespace Sys2Proof.Tests

open Sys2Proof.Machine

/-- A state written as the spec writes its tuple (00_scope.md section 5), with nothing pending. -/
def st (counter compare : U64) (enabled : Bool) (prescaler : U12) (stp : U8) (divider : U20)
    (intrEnable testForce line : Bool) : State :=
  ⟨⟨counter, compare, enabled, prescaler, stp, divider, intrEnable, testForce, line⟩, .none, []⟩

def blkAfter (i : Instr) (s : State) : Option Block :=
  match exec i s with
  | .next t => some t.blk
  | _ => none

def answer (i : Instr) (s : State) : Option Response :=
  match exec i s with
  | .next t => some t.response
  | _ => none

def stepped (s : State) : Option State :=
  match step s with
  | .next t => some t
  | _ => none

def faultOf (s : State) : Option Fault :=
  match step s with
  | .fault r => some r
  | _ => none

def refusalOf (s : State) : Option Refusal :=
  match step s with
  | .refused r => some r
  | _ => none

/-- The spec's example state `(0x5, 0x3, 1, 0, 0, 1, 1, 0, 1)`: matched, the line high. -/
def matched : State := st 0x5 0x3 true 0 0 1 true false true
/-- The spec's stale state `(0x2, 0x3, 1, 0, 0, 1, 1, 0, 1)` (section 2.6). -/
def stale : State := st 0x2 0x3 true 0 0 1 true false true
/-- `(0x63, 0x64, 1, 0, 0, 1, 1, 0, 0)`: one tick below the match (section 2.7). -/
def oneBelow : State := st 0x63 0x64 true 0 0 1 true false false

/-! ### Well-formedness: each check refuses its ill-formed term -/

theorem test_wf_refuses_rdUnmapped_at_a_register : (Instr.rdUnmapped 0x104).wf = false := by decide
theorem test_wf_refuses_wrUnmapped_at_a_register : (Instr.wrUnmapped 0x11C 0).wf = false := by decide
theorem test_wf_refuses_adv_zero : (Instr.adv 0).wf = false := by decide
theorem test_wf_admits : (Instr.rdUnmapped 0x105).wf ∧ (Instr.wrUnmapped 0x120 1).wf ∧ (Instr.adv 1).wf := by decide

/-! ### Decoding: the key table of R68, word for word -/

theorem test_decode_reads :
    decodeTableWord 40 0x000000000 = some .rdAlertTest ∧ decodeTableWord 40 0x000000004 = some .rdControl0 ∧
    decodeTableWord 40 0x000000100 = some .rdConfiguration ∧ decodeTableWord 40 0x000000104 = some .rdValueLow ∧
    decodeTableWord 40 0x000000108 = some .rdValueHigh ∧ decodeTableWord 40 0x00000010C = some .rdCompareLow ∧
    decodeTableWord 40 0x000000110 = some .rdCompareHigh ∧ decodeTableWord 40 0x000000114 = some .rdIntrEnable ∧
    decodeTableWord 40 0x000000118 = some .rdIntrStatus ∧ decodeTableWord 40 0x00000011C = some .rdIntrTest := by
  decide

/-- Data 0x9ABCDEF0 after the key, in bits 71 to 40. -/
theorem test_decode_writes_low :
    decodeTableWord 72 0x9ABCDEF00100000000 = some (.wrAlertTest 0x9ABCDEF0) ∧
    decodeTableWord 72 0x9ABCDEF00100000004 = some (.wrControl0 0x9ABCDEF0) ∧
    decodeTableWord 72 0x9ABCDEF00100000100 = some (.wrConfiguration 0x9ABCDEF0) ∧
    decodeTableWord 72 0x9ABCDEF00100000104 = some (.wrValueLow 0x9ABCDEF0) ∧
    decodeTableWord 72 0x9ABCDEF00100000108 = some (.wrValueHigh 0x9ABCDEF0) := by decide

theorem test_decode_writes_high :
    decodeTableWord 72 0x9ABCDEF0010000010C = some (.wrCompareLow 0x9ABCDEF0) ∧
    decodeTableWord 72 0x9ABCDEF00100000110 = some (.wrCompareHigh 0x9ABCDEF0) ∧
    decodeTableWord 72 0x9ABCDEF00100000114 = some (.wrIntrEnable 0x9ABCDEF0) ∧
    decodeTableWord 72 0x9ABCDEF00100000118 = some (.wrIntrStatus 0x9ABCDEF0) ∧
    decodeTableWord 72 0x9ABCDEF0010000011C = some (.wrIntrTest 0x9ABCDEF0) := by decide

/-- The events ignore `we` and `off` (R68); `d` is the 64-bit word after the key. -/
theorem test_decode_events :
    decodeTableWord 40 0x200000000 = some .reset ∧ decodeTableWord 40 0x300000104 = some .reset ∧
    decodeTableWord 40 0x400000000 = some .cmphit ∧
    decodeTableWord 104 0x123456789ABCDEF00600000000 = some (.adv 0x123456789ABCDEF0) := by decide

/-- Section 2.1: unaligned, holes, out of range, no aliasing. -/
theorem test_decode_unmapped :
    (∀ off ∈ [0x1, 0x2, 0x3, 0x8, 0xFC, 0x105, 0x106, 0x107, 0x11D, 0x11E, 0x11F, 0x120, 0x200, 0x1104, 0xFFFFFFFC,
      0xFFFFFFFF], decodeTableWord 40 off = some (.rdUnmapped (BitVec.ofNat 32 off))) ∧
    decodeTableWord 72 0xDEADBEEF0100000008 = some (.wrUnmapped 0x8 0xDEADBEEF) := by decide

theorem test_decode_rejects : decode ⟨0x800000000, 0⟩ = .error .keyTooWide ∧
    decode ⟨0x100000104, 0x100000000⟩ = .error .wdataTooWide := ⟨rfl, rfl⟩

/-! ### One stimulus each -/

/-- Section 2.2; the rest of the state is the start state's. -/
theorem test_control0 :
    blkAfter (.wrControl0 1) (st 0 0 false 0 0 1 true false false) = some (st 0 0 true 0 0 1 true false true).blk ∧
    blkAfter (.wrControl0 0xFFFFFFFE) State.reset = some State.reset.blk ∧
    blkAfter (.wrControl0 0) matched = some (st 0x5 0x3 false 0 0 1 true false false).blk ∧
    blkAfter (.wrControl0 0) (st 0x5 0x3 true 0 0 1 true true true) =
      some (st 0x5 0x3 false 0 0 1 true true true).blk := by decide

theorem test_rdControl0 : answer .rdControl0 matched = some (.data 1) ∧
    answer .rdControl0 State.reset = some (.data 0) := by decide

/-- R82's example: any data, and a stale line stays. -/
theorem test_alertTest : blkAfter (.wrAlertTest 0xFFFFFFFF) stale = some stale.blk ∧
    answer (.wrAlertTest 0xFFFFFFFF) stale = some .ok ∧ answer .rdAlertTest matched = some (.data 0) := by decide

/-- Section 2.3: prescaler, step and divider; the line is not recomputed (P6 line 10). -/
theorem test_configuration :
    blkAfter (.wrConfiguration 0x00050009) State.reset = some (st 0 0xFFFFFFFFFFFFFFFF false 9 5 50 false false false).blk ∧
    blkAfter (.wrConfiguration 0x00000FFF) stale = some (st 0x2 0x3 true 4095 0 1 true false true).blk ∧
    blkAfter (.wrConfiguration 0xFFFFFFFF) stale = some (st 0x2 0x3 true 4095 255 1044480 true false true).blk ∧
    blkAfter (.wrConfiguration 0x01800800) stale = some (st 0x2 0x3 true 2048 128 262272 true false true).blk := by decide

/-- Section 2.3: only reserved bits set reads back 0, all bits set reads back 0x00FF0FFF. -/
theorem test_rdConfiguration :
    answer .rdConfiguration (st 0 0 false 4095 255 1044480 false false false) = some (.data 0x00FF0FFF) ∧
    blkAfter (.wrConfiguration 0xFF00F000) State.reset = some State.reset.blk := by decide

/-- R90, R91. -/
theorem test_rdValue : answer .rdValueLow (st 0x123456789ABCDEF0 0 false 0 0 1 false false false) = some (.data 0x9ABCDEF0) ∧
    answer .rdValueHigh (st 0x123456789ABCDEF0 0 false 0 0 1 false false false) = some (.data 0x12345678) := by decide

/-- Section 2.4: the other half is kept, the line follows the mixed value. -/
theorem test_wrValue :
    blkAfter (.wrValueLow 0x10) (st 0x100000000 0x100000010 true 0 0 1 true false false) =
      some (st 0x100000010 0x100000010 true 0 0 1 true false true).blk ∧
    blkAfter (.wrValueLow 0xF) (st 0x100000010 0x100000010 true 0 0 1 true false true) =
      some (st 0x10000000F 0x100000010 true 0 0 1 true false false).blk ∧
    blkAfter (.wrValueHigh 0xBBBBBBBB) (st 0x11111111AAAAAAAA 0xFFFFFFFFFFFFFFFF false 0 0 1 false false false) =
      some (st 0xBBBBBBBBAAAAAAAA 0xFFFFFFFFFFFFFFFF false 0 0 1 false false false).blk := by decide

/-- Section 2.4: bit 63 is magnitude, not sign. -/
theorem test_compare_is_unsigned :
    (blkAfter (.wrValueLow 0) (st 0x8000000000000000 0x7FFFFFFFFFFFFFFF true 0 0 1 true false true)).map (·.line) = some true ∧
    (blkAfter (.wrValueLow 0xFFFFFFFF) (st 0x7FFFFFFFFFFFFFFF 0x8000000000000000 true 0 0 1 true false false)).map (·.line) =
      some false := by decide

theorem test_rdCompare : answer .rdCompareLow (st 0 0x8000000000000000 false 0 0 1 false false false) = some (.data 0) ∧
    answer .rdCompareHigh (st 0 0x8000000000000000 false 0 0 1 false false false) = some (.data 0x80000000) := by decide

/-- R165's example: the half-written compare value glitches the line. -/
theorem test_wrCompare :
    blkAfter (.wrCompareLow 0x10) (st 0x180000000 0x1FFFFFFF0 true 0 0 1 true false false) =
      some (st 0x180000000 0x100000010 true 0 0 1 true false true).blk ∧
    blkAfter (.wrCompareHigh 0x2) (st 0x180000000 0x100000010 true 0 0 1 true false true) =
      some (st 0x180000000 0x200000010 true 0 0 1 true false false).blk := by decide

/-- Section 2.6. -/
theorem test_intrEnable :
    blkAfter (.wrIntrEnable 1) (st 0x5 0x3 true 0 0 1 false false false) = some matched.blk ∧
    blkAfter (.wrIntrEnable 0xFFFFFFFE) matched = some (st 0x5 0x3 true 0 0 1 false false false).blk ∧
    answer .rdIntrEnable matched = some (.data 1) := by decide

/-- Section 2.6: no write-1-to-clear, a write refreshes a stale line, a read does not. -/
theorem test_intrStatus :
    blkAfter (.wrIntrStatus 1) matched = some matched.blk ∧
    blkAfter (.wrIntrStatus 0xFFFFFFFF) stale = some (st 0x2 0x3 true 0 0 1 true false false).blk ∧
    answer .rdIntrStatus stale = some (.data 1) ∧ blkAfter .rdIntrStatus stale = some stale.blk := by decide

/-- Section 2.6: sticky, on bit 0 alone, and never read back. -/
theorem test_intrTest :
    blkAfter (.wrIntrTest 0xFFFFFFFF) State.reset = some (st 0 0xFFFFFFFFFFFFFFFF false 0 0 1 false true true).blk ∧
    blkAfter (.wrIntrTest 2) stale = some stale.blk ∧
    answer .rdIntrTest (st 0 0xFFFFFFFFFFFFFFFF false 0 0 1 false true true) = some (.data 0) := by decide

/-- Section 2.7: the carry, the line left alone, the wrap with a stale line. -/
theorem test_adv :
    blkAfter (.adv 1) (st 0xFFFFFFFF 0xFFFFFFFFFFFFFFFF true 0 0 1 false false false) =
      some (st 0x100000000 0xFFFFFFFFFFFFFFFF true 0 0 1 false false false).blk ∧
    blkAfter (.adv 1) oneBelow = some (st 0x64 0x64 true 0 0 1 true false false).blk ∧
    blkAfter (.adv 1) (st 0xFFFFFFFFFFFFFFFF 0x10 true 0 0 1 true false true) =
      some (st 0 0x10 true 0 0 1 true false true).blk := by decide

/-- Section 2.7: a match, a masked match, a spurious notification, a stale line. -/
theorem test_cmphit :
    blkAfter .cmphit (st 0x64 0x64 true 0 0 1 true false false) = some (st 0x64 0x64 true 0 0 1 true false true).blk ∧
    blkAfter .cmphit (st 0x64 0x64 true 0 0 1 false false false) = some (st 0x64 0x64 true 0 0 1 false false false).blk ∧
    blkAfter .cmphit (st 0x10 0x64 true 0 0 1 true false false) = some (st 0x10 0x64 true 0 0 1 true false false).blk ∧
    blkAfter .cmphit (st 0 0x10 true 0 0 1 true false true) = some (st 0 0x10 true 0 0 1 true false false).blk := by decide

/-- Section 2.8. -/
theorem test_reset : blkAfter .reset (st 0x5 0x3 true 9 5 50 true true true) =
    some (st 0 0xFFFFFFFFFFFFFFFF false 0 0 1 false false false).blk := by decide

/-- Program P5, lines 1 and 4: the fault carries kind and offset, the block is as it was. -/
theorem test_unmapped : answer (.rdUnmapped 0x200) matched = some (.fault .read 0x200) ∧
    blkAfter (.wrUnmapped 0x120 1) stale = some stale.blk := by decide

/-! ### The step -/

/-- Program P1, line 1, as the first stimulus after reset. -/
theorem test_step_first_stimulus_after_reset :
    stepped (State.reset.withFetchWord 72 0x10100000004) =
      some ⟨(st 0 0xFFFFFFFFFFFFFFFF true 0 0 1 false false false).blk, .ok, []⟩ := by decide

/-- Program P5: after a fault the block serves the next stimulus (R52). -/
theorem test_step_goes_on_after_fault :
    (stepped ((State.reset.withFetchWord 40 0x11C).withFetchWord 40 0x200)).bind stepped =
      some ⟨State.reset.blk, .data 0, []⟩ := by decide

/-- Section 2.7, `TICK 1` and the jump over the compare value. -/
theorem test_step_tick :
    stepped { oneBelow with inbox := [.tick 1] } = some (st 0x64 0x64 true 0 0 1 true false true) ∧
    stepped { st 0x10 0x64 true 0 0 1 true false false with inbox := [.tick 0x1000] } =
      some (st 0x1010 0x64 true 0 0 1 true false true) := by decide

/-- Section 2.7, last row, and the requests that are no stimulus. -/
theorem test_step_stops :
    faultOf { State.reset with inbox := [.stimulus (encode (.adv 1))] } = some .advWhileDisabled ∧
    faultOf { State.reset with inbox := [.tick 1] } = some .advWhileDisabled ∧
    faultOf { oneBelow with inbox := [.engineSet 0] } = some .engineSetBeforeMatch ∧
    refusalOf { matched with inbox := [.stimulus (encode (.adv 0))] } = some .notAStimulus ∧
    refusalOf { matched with inbox := [.master ⟨.read, 0, 2, 0⟩] } = some (.accessWidth 2) ∧
    refusalOf State.reset = some .noStimulus := by decide

/-! ### Witnesses: the hypotheses of the statements can be met -/

theorem witness_DecodeEncodeEveryStimulus : (Instr.wrUnmapped 0xFFFFFFFF 0xFFFFFFFF).wf = true ∧
    (Instr.rdUnmapped 0x1).wf = true ∧ (Instr.adv 0xFFFFFFFFFFFFFFFF).wf = true ∧ (Instr.wrIntrTest 1).wf = true := by decide

/-- A read (port 0), a write (port 0, `we` 1) and `ADV` (port 3). -/
theorem witness_EncodeGivesBackTheFrame :
    decode ⟨0x0FFFFFFFF, 7⟩ = .ok (.rdUnmapped 0xFFFFFFFF) ∧ decode ⟨0x100000100, 0xFFFFFFFF⟩ = .ok (.wrConfiguration 0xFFFFFFFF) ∧
    decode ⟨0x7FFFFFFFF, 1⟩ = .ok (.adv 1) := ⟨rfl, rfl, rfl⟩

theorem witness_DecodedStimulusIsWellFormed : decode ⟨0x600000000, 0⟩ = .ok (.adv 0) ∧
    decode ⟨0x000000120, 0⟩ = .ok (.rdUnmapped 0x120) := ⟨rfl, rfl⟩

theorem witness_ReadsChangeNothingAndRepeat :
    isRead .rdIntrStatus = true ∧ ∃ t, exec .rdIntrStatus stale = .next t := ⟨rfl, _, rfl⟩

theorem witness_AdvanceAddsModulo : oneBelow.blk.enabled = true ∧ (0xFFFFFFFFFFFFFFFF : U64).toNat ≠ 0 := by decide

theorem witness_RepeatedWriteIsOneWrite :
    isIdempotentWrite (.wrIntrTest 1) = true ∧ ∃ t, exec (.wrIntrTest 1) State.reset = .next t := ⟨rfl, _, rfl⟩

/-- Each element is changed by some stimulus. -/
theorem witness_OnlyItsWritersChangeAnElement :
    (∃ t, exec (.adv 1) oneBelow = .next t ∧ t.blk.counter ≠ oneBelow.blk.counter) ∧
    (∃ t, exec (.wrCompareHigh 1) oneBelow = .next t ∧ t.blk.compare ≠ oneBelow.blk.compare) ∧
    (∃ t, exec (.wrControl0 0) oneBelow = .next t ∧ t.blk.enabled ≠ oneBelow.blk.enabled) ∧
    (∃ t, exec (.wrConfiguration 0x20001) oneBelow = .next t ∧ t.blk.divider ≠ oneBelow.blk.divider) ∧
    (∃ t, exec (.wrIntrEnable 0) oneBelow = .next t ∧ t.blk.intrEnable ≠ oneBelow.blk.intrEnable) ∧
    (∃ t, exec (.wrIntrTest 1) oneBelow = .next t ∧ t.blk.testForce ≠ oneBelow.blk.testForce) := by
  refine ⟨⟨_, rfl, ?_⟩, ⟨_, rfl, ?_⟩, ⟨_, rfl, ?_⟩, ⟨_, rfl, ?_⟩, ⟨_, rfl, ?_⟩, ⟨_, rfl, ?_⟩⟩ <;> decide

/-- A recompute point, a stimulus that is none, a force. -/
theorem witness_LineMovesAtRecomputePointsOnly :
    (recomputes .cmphit = true ∧ ∃ t, exec .cmphit stale = .next t) ∧
    (recomputes (.wrConfiguration 1) = false ∧ forcesLine (.wrConfiguration 1) = false ∧
      ∃ t, exec (.wrConfiguration 1) stale = .next t) ∧
    (forcesLine (.wrIntrTest 3) = true ∧ ∃ t, exec (.wrIntrTest 3) State.reset = .next t) :=
  ⟨⟨rfl, _, rfl⟩, ⟨rfl, by decide, _, rfl⟩, ⟨by decide, _, rfl⟩⟩

/-- The line low, and the line high. -/
theorem witness_LineTransitions :
    (State.reset.blk.ForceInv ∧ State.reset.blk.line = false ∧ ∃ t, exec (.wrIntrTest 1) State.reset = .next t) ∧
    (matched.blk.ForceInv ∧ matched.blk.line = true ∧ ∃ t, exec (.wrControl0 0) matched = .next t) :=
  ⟨⟨by decide, rfl, _, rfl⟩, ⟨by decide, rfl, _, rfl⟩⟩

theorem witness_FaultOnlyFromUnmapped :
    ∃ t, exec (.wrUnmapped 0x8 1) matched = .next t ∧ t.response = .fault .write 0x8 := ⟨_, rfl, rfl⟩

theorem witness_EveryStimulusAccepted :
    (∃ d, Instr.adv 1 = .adv d ∧ State.reset.blk.enabled = false) ∧ ∃ t, exec (.adv 1) oneBelow = .next t :=
  ⟨⟨1, rfl, rfl⟩, _, rfl⟩

theorem witness_DividerIsInvisible : ∃ t, exec (.wrConfiguration 0x50009) matched = .next t := ⟨_, rfl⟩

theorem witness_ForcedLineStays : (1 : U32).toNat % 2 = 1 ∧ Instr.reset ∉ [Instr.wrControl0 0, .wrIntrStatus 1] ∧
    ∃ t, runScript (.wrIntrTest 1 :: [.wrControl0 0, .wrIntrStatus 1]) State.reset = .next t :=
  ⟨by decide, by decide, _, rfl⟩

/-- R165's example values. -/
theorem witness_GlitchFreeCompareUpdate :
    (st 0x180000000 0x1FFFFFFF0 true 0 0 1 true false false).blk.testForce = false ∧
    (0x180000000 : U64).toNat < (0x1FFFFFFF0 : U64).toNat ∧ (0x180000000 : U64).toNat < (0x200000010 : U64).toNat := by
  decide

/-- The high half stays 0 while the counter runs by 2 in all. -/
theorem witness_HighLowHighReadIsTrue :
    ∃ r1 a1 r2 a2 r3, exec .rdValueHigh oneBelow = .next r1 ∧ r1.response = .data 0 ∧ exec (.adv 1) r1 = .next a1 ∧
      exec .rdValueLow a1 = .next r2 ∧ r2.response = .data 0x64 ∧ exec (.adv 1) r2 = .next a2 ∧
      exec .rdValueHigh a2 = .next r3 ∧ r3.response = .data 0 ∧ (1 : U64).toNat + (1 : U64).toNat < 2 ^ 32 :=
  ⟨_, _, _, _, _, rfl, rfl, rfl, rfl, rfl, rfl, rfl, rfl, by decide⟩

theorem witness_InitialisationOrderIsQuiet : matched.blk.testForce = false := rfl

theorem witness_StepRunsTheDecodedStimulus :
    (State.reset.withFetchWord 40 0x118).inbox = .stimulus ⟨0x118, 0⟩ :: [] ∧
    decode ⟨0x118, 0⟩ = .ok .rdIntrStatus ∧ Instr.rdIntrStatus.wf = true := ⟨by decide, rfl, rfl⟩

theorem witness_StepServesTheOldestRequestOnly :
    (∃ t, step { matched with inbox := [.stimulus (encode .cmphit), .tick 1] } = .next t) ∧ State.reset.inbox = [] :=
  ⟨⟨_, rfl⟩, rfl⟩

/-- The first offset past the window, read and written. -/
theorem witness_StepFaultsOnEveryOtherOffset :
    (0x120 : U32).toNat ∉ [0x000, 0x004, 0x100, 0x104, 0x108, 0x10C, 0x110, 0x114, 0x118, 0x11C] ∧
    (encode (.rdUnmapped 0x120)).key.toNat = (0x120 : U32).toNat ∧
    (encode (.wrUnmapped 0x120 0xFFFFFFFF)).key.toNat = 2 ^ 32 + (0x120 : U32).toNat ∧
    (encode (.wrUnmapped 0x120 0xFFFFFFFF)).data.toNat < 2 ^ 32 := by decide

theorem witness_MasterAccessIsThePortAccess :
    ({ State.reset with inbox := [.master ⟨.write, Config.base + (0xFFFFFFFF : U32).toNat, 4, 1⟩] } : State).inbox =
      .master ⟨.write, Config.base + (0xFFFFFFFF : U32).toNat, 4, 1⟩ :: [] := rfl

theorem witness_OtherAccessSizesAreRefused :
    ({ State.reset with inbox := [.master ⟨.read, 0, 8, 0⟩] } : State).inbox = .master ⟨.read, 0, 8, 0⟩ :: [] ∧
    (8 : Nat) ≠ 4 := by decide

/-- Reaching exactly, not reaching, and wrapping. -/
theorem witness_TickAdvancesAndNotifiesOnReaching :
    (1 : U64).toNat ≠ 0 ∧ ({ oneBelow with inbox := [.tick 1] } : State).inbox = .tick 1 :: [] ∧
    oneBelow.blk.enabled = true ∧
    stepped { matched with inbox := [.tick 1] } = some (st 0x6 0x3 true 0 0 1 true false true) ∧
    stepped { matched with inbox := [.tick 0xFFFFFFFFFFFFFFFB] } = some (st 0 0x3 true 0 0 1 true false true) := by decide

/-- After a match, and before one. -/
theorem witness_AfterMatchPolicySetsTheCounterOnly :
    stepped { matched with inbox := [.engineSet 0] } = some (st 0 0x3 true 0 0 1 true false true) ∧
    faultOf { oneBelow with inbox := [.engineSet 0] } = some .engineSetBeforeMatch := by decide

theorem witness_StepKeepsTheBlockInvariant :
    (st 0 0 true 4095 255 1044480 true true true).blk.Inv ∧
    ∃ t, step { st 0 0 true 4095 255 1044480 true true true with inbox := [.tick 1] } = .next t :=
  ⟨by decide, _, rfl⟩

theorem witness_OnlyResetEndsATestForce :
    ∃ t, step { st 0 0 true 0 0 1 true true true with inbox := [.stimulus (encode .reset)] } = .next t ∧
      (st 0 0 true 0 0 1 true true true).blk.testForce = true ∧ t.blk.testForce = false := ⟨_, rfl, rfl, rfl⟩

theorem witness_ReferenceStepKeepsTheLineCurrent :
    oneBelow.blk.LineCurrent ∧ (∀ r ∈ ({ oneBelow with inbox := [.tick 1] } : State).inbox.head?, r.reference oneBelow.blk) ∧
    ∃ t, step { oneBelow with inbox := [.tick 1] } = .next t := by
  refine ⟨by decide, ?_, _, rfl⟩
  intro r hr
  obtain rfl : Request.tick 1 = r := by simpa using hr
  show oneBelow.blk.counter.toNat + (1 : U64).toNat < 2 ^ 64
  decide

/-- One forcing write from reset. -/
theorem witness_ReferenceRunKeepsTheLineCurrent :
    (∀ (j : Nat) (u : State), j < 1 →
      runSteps j { State.reset with inbox := [.stimulus (encode (.wrIntrTest 1))] } = .next u →
      ∀ r ∈ u.inbox.head?, r.reference u.blk) ∧
    ∃ t, runSteps 1 { State.reset with inbox := [.stimulus (encode (.wrIntrTest 1))] } = .next t := by
  refine ⟨?_, _, rfl⟩
  intro j u hj hu r hr
  obtain rfl : j = 0 := by omega
  cases hu
  obtain rfl : Request.stimulus (encode (.wrIntrTest 1)) = r := by simpa using hr
  intro d hd
  have hw : decode (encode (.wrIntrTest 1)) = .ok (.wrIntrTest 1) := rfl
  rw [hw] at hd
  cases hd

/-- The three situations of R131. -/
theorem witness_LineGoesStaleInThreeSituations :
    (∃ t, step { oneBelow with inbox := [.stimulus (encode (.adv 1))] } = .next t ∧
      oneBelow.blk.LineCurrent ∧ ¬ t.blk.LineCurrent) ∧
    (∃ t, step { matched with inbox := [.tick 0xFFFFFFFFFFFFFFFB] } = .next t ∧
      matched.blk.LineCurrent ∧ ¬ t.blk.LineCurrent) ∧
    (∃ t, step { matched with inbox := [.engineSet 0] } = .next t ∧
      matched.blk.LineCurrent ∧ ¬ t.blk.LineCurrent) :=
  ⟨⟨_, rfl, by decide, by decide⟩, ⟨_, rfl, by decide, by decide⟩, ⟨_, rfl, by decide, by decide⟩⟩

end Sys2Proof.Tests
end

section
/-! PROOFS. The family 20_memory.md: reads have no side effect. -/

namespace Sys2Proof.Machine

/-- Spec R45: "Every read returns a function of the current state (or the fault)". The function looks at the block
alone, so no earlier response and no pending request shows in an answer. -/
theorem exec_isRead {i : Instr} (hi : isRead i = true) :
    ∃ answer : Block → Response, ∀ s : State, exec i s = .next { s with response := answer s.blk } :=
  match i, hi with
  | .rdAlertTest, _ => ⟨fun _ => .data 0, fun _ => rfl⟩
  | .rdControl0, _ => ⟨fun b => .data (flagWord b.enabled), fun _ => rfl⟩
  | .rdConfiguration, _ => ⟨fun b => .data (configWord b.prescaler b.step), fun _ => rfl⟩
  | .rdValueLow, _ => ⟨fun b => .data (lowHalf b.counter), fun _ => rfl⟩
  | .rdValueHigh, _ => ⟨fun b => .data (highHalf b.counter), fun _ => rfl⟩
  | .rdCompareLow, _ => ⟨fun b => .data (lowHalf b.compare), fun _ => rfl⟩
  | .rdCompareHigh, _ => ⟨fun b => .data (highHalf b.compare), fun _ => rfl⟩
  | .rdIntrEnable, _ => ⟨fun b => .data (flagWord b.intrEnable), fun _ => rfl⟩
  | .rdIntrStatus, _ => ⟨fun b => .data (flagWord b.line), fun _ => rfl⟩
  | .rdIntrTest, _ => ⟨fun _ => .data 0, fun _ => rfl⟩
  | .rdUnmapped off, _ => ⟨fun _ => .fault .read off, fun _ => rfl⟩

/-- Settles O15: the state after a read differs in its response only, and the answer looks at the block alone, so the
repeated read answers the same. -/
theorem readsChangeNothingAndRepeat : Obligations.ReadsChangeNothingAndRepeat := by
  intro i s t hi h
  obtain ⟨answer, hexec⟩ := exec_isRead hi
  have ht : { s with response := answer s.blk } = t := Host.Outcome.next.inj ((hexec s).symm.trans h)
  subst ht
  exact ⟨rfl, rfl, rfl, hexec _⟩

end Sys2Proof.Machine
end

section
/-! PROOFS. The family 30_encoding.md: the register decoder is the offset map. -/

namespace Sys2Proof

/-- The offset map of spec R63, read from the register's side: the inverse of `regDecode` (`regDecode_eq_some_iff`). -/
def Reg.offset : Reg → U32
  | .alertTest => 0x000
  | .control0 => 0x004
  | .configuration => 0x100
  | .valueLow => 0x104
  | .valueHigh => 0x108
  | .compareLow => 0x10C
  | .compareHigh => 0x110
  | .intrEnable => 0x114
  | .intrStatus => 0x118
  | .intrTest => 0x11C

theorem regDecode_offset (r : Reg) : regDecode r.offset = some r := by
  cases r <;> rfl

theorem offset_of_regDecode_of_mem {off : U32} {r : Reg} (h : off ∈ mappedOffsets) (hr : regDecode off = some r) :
    off = r.offset := by
  rw [mem_mappedOffsets] at h
  rcases h with rfl | rfl | rfl | rfl | rfl | rfl | rfl | rfl | rfl | rfl <;> cases hr <;> rfl

/-- Spec R63: "there is no aliasing": the decoder reaches a register from its own offset alone. -/
theorem regDecode_eq_some_iff {off : U32} {r : Reg} : regDecode off = some r ↔ off = r.offset := by
  constructor
  · intro hr
    by_cases h : off ∈ mappedOffsets
    · exact offset_of_regDecode_of_mem h hr
    · rw [regDecode_of_notMem h] at hr
      cases hr
  · rintro rfl
    exact regDecode_offset r

/-- The map written as numbers holds each register once, with its offset. -/
theorem mem_offsetTable_iff {r : Reg} {n : Nat} :
    (r, n) ∈ [(Reg.alertTest, 0x000), (Reg.control0, 0x004), (Reg.configuration, 0x100),
      (Reg.valueLow, 0x104), (Reg.valueHigh, 0x108), (Reg.compareLow, 0x10C), (Reg.compareHigh, 0x110),
      (Reg.intrEnable, 0x114), (Reg.intrStatus, 0x118), (Reg.intrTest, 0x11C)] ↔ n = r.offset.toNat := by
  cases r <;> simp [Reg.offset]

/-- Settles O1: both sides say that `off` is the offset of `r`, as a word and as a number. -/
theorem registerDecodeIsTheOffsetMap : Obligations.RegisterDecodeIsTheOffsetMap := by
  intro off r
  rw [regDecode_eq_some_iff, mem_offsetTable_iff, BitVec.toNat_inj]

end Sys2Proof
end

section
/-! PROOFS. The family 40_register_decode.md: Control0 and the unmapped accesses. -/

namespace Sys2Proof.Machine

/-! ### The shared endings as next states -/

@[simp] theorem respondData_eq (v : U32) (s : State) : respondData v s = .next { s with response := .data v } := rfl

@[simp] theorem respondOk_eq (b : Block) (s : State) : respondOk b s = .next { s with blk := b, response := .ok } := rfl

@[simp] theorem raiseUnmapped_eq (k : AccessKind) (off : U32) (s : State) :
    raiseUnmapped k off s = .next { s with response := .fault k off } := rfl

/-! ### The write field and the line as the statements say them, by number -/

theorem bit0_eq_decide (w : U32) : bit0 w = decide (w.toNat % 2 = 1) := by
  rw [Bool.eq_iff_iff, bit0_iff, decide_eq_true_iff]

theorem Block.lineFor_eq (b : Block) : b.lineFor = (b.cond || b.testForce) := by
  rw [Bool.eq_iff_iff, Bool.or_eq_true, Block.cond_iff, Block.lineFor, decide_eq_true_iff]

/-- `Recompute()` stores the line that spec R120 asks for, which the statements compute with numbers. -/
theorem Block.recompute_eq_withLineFor (b : Block) : b.recompute = b.withLineFor := by
  rw [Block.recompute, Block.withLineFor, Block.lineFor_eq]

/-! ### The family's stimuli, each by its shared ending -/

theorem exec_rdControl0 (s : State) : exec .rdControl0 s = respondData (flagWord s.blk.enabled) s := rfl

theorem exec_wrControl0 (w : U32) (s : State) :
    exec (.wrControl0 w) s = respondOk { s.blk with enabled := bit0 w }.recompute s := rfl

theorem exec_rdUnmapped (off : U32) (s : State) : exec (.rdUnmapped off) s = raiseUnmapped .read off s := rfl

theorem exec_wrUnmapped (off w : U32) (s : State) : exec (.wrUnmapped off w) s = raiseUnmapped .write off s := rfl

/-- Settles O9: the flag's word is 1 or 0, and a read changes the response alone. -/
theorem control0ReadsEnabled : Obligations.Control0ReadsEnabled := by
  intro s
  rw [exec_rdControl0, respondData_eq, flagWord_eq]

/-- Settles O17: bit 0 is the write data's parity, and the recomputation gives the line that spec R120 asks for. -/
theorem control0WriteSetsEnabledAndRecomputes : Obligations.Control0WriteSetsEnabledAndRecomputes := by
  intro w s
  rw [exec_wrControl0, respondOk_eq, Block.recompute_eq_withLineFor, bit0_eq_decide]

/-- Settles O26: either access ends in the one fault, which is its whole effect; the write's data goes nowhere. -/
theorem unmappedAccessAnswersFault : Obligations.UnmappedAccessAnswersFault := by
  intro off w s
  constructor
  · rw [exec_rdUnmapped, raiseUnmapped_eq]
  · rw [exec_wrUnmapped, raiseUnmapped_eq]

end Sys2Proof.Machine
end

section
/-! PROOFS. The family 41_split_accumulator.md: the counter and the compare value seen through their halves. -/

namespace Sys2Proof.Machine

/-! ### The half operations as the statements write them, by number -/

theorem lowHalf_eq_ofNat (v : U64) : lowHalf v = BitVec.ofNat 32 (v.toNat % 2 ^ 32) := by
  rw [← lowHalf_toNat, BitVec.ofNat_toNat, BitVec.setWidth_eq]

theorem highHalf_eq_ofNat (v : U64) : highHalf v = BitVec.ofNat 32 (v.toNat / 2 ^ 32) := by
  rw [← highHalf_toNat, BitVec.ofNat_toNat, BitVec.setWidth_eq]

theorem withLow_eq_ofNat (v : U64) (w : U32) :
    withLow v w = BitVec.ofNat 64 (v.toNat / 2 ^ 32 * 2 ^ 32 + w.toNat) := by
  rw [← withLow_toNat, BitVec.ofNat_toNat, BitVec.setWidth_eq]

theorem withHigh_eq_ofNat (v : U64) (w : U32) :
    withHigh v w = BitVec.ofNat 64 (w.toNat * 2 ^ 32 + v.toNat % 2 ^ 32) := by
  rw [← withHigh_toNat, BitVec.ofNat_toNat, BitVec.setWidth_eq]

/-! ### The family's stimuli, each by its shared ending -/

theorem exec_rdValueLow (s : State) : exec .rdValueLow s = respondData (lowHalf s.blk.counter) s := rfl

theorem exec_rdValueHigh (s : State) : exec .rdValueHigh s = respondData (highHalf s.blk.counter) s := rfl

theorem exec_wrValueLow (w : U32) (s : State) :
    exec (.wrValueLow w) s = respondOk { s.blk with counter := withLow s.blk.counter w }.recompute s := rfl

theorem exec_wrValueHigh (w : U32) (s : State) :
    exec (.wrValueHigh w) s = respondOk { s.blk with counter := withHigh s.blk.counter w }.recompute s := rfl

theorem exec_wrCompareLow (w : U32) (s : State) :
    exec (.wrCompareLow w) s = respondOk { s.blk with compare := withLow s.blk.compare w }.recompute s := rfl

theorem exec_wrCompareHigh (w : U32) (s : State) :
    exec (.wrCompareHigh w) s = respondOk { s.blk with compare := withHigh s.blk.compare w }.recompute s := rfl

/-- Settles O11: the answers are the counter's remainder and quotient by 2^32, and a read changes the response alone. -/
theorem valueReadsCounterHalves : Obligations.ValueReadsCounterHalves := by
  intro s
  constructor
  · rw [exec_rdValueLow, respondData_eq, lowHalf_eq_ofNat]
  · rw [exec_rdValueHigh, respondData_eq, highHalf_eq_ofNat]

/-- Settles O19: the masked merge keeps the counter's high half, and the recomputation judges the merged value. -/
theorem valueLowWriteKeepsHighHalf : Obligations.ValueLowWriteKeepsHighHalf := by
  intro w s
  rw [exec_wrValueLow, respondOk_eq, Block.recompute_eq_withLineFor, withLow_eq_ofNat]

/-- Settles O20: the masked merge keeps the counter's low half, and the recomputation judges the merged value. -/
theorem valueHighWriteKeepsLowHalf : Obligations.ValueHighWriteKeepsLowHalf := by
  intro w s
  rw [exec_wrValueHigh, respondOk_eq, Block.recompute_eq_withLineFor, withHigh_eq_ofNat]

/-- Settles O21: the line is judged on the mixture of the new low and the old high half of the compare value. -/
theorem compareLowWriteKeepsHighHalf : Obligations.CompareLowWriteKeepsHighHalf := by
  intro w s
  rw [exec_wrCompareLow, respondOk_eq, Block.recompute_eq_withLineFor, withLow_eq_ofNat]

/-- Settles O22: the line is judged on the mixture of the new high and the old low half of the compare value. -/
theorem compareHighWriteKeepsLowHalf : Obligations.CompareHighWriteKeepsLowHalf := by
  intro w s
  rw [exec_wrCompareHigh, respondOk_eq, Block.recompute_eq_withLineFor, withHigh_eq_ofNat]

end Sys2Proof.Machine
end

section
/-! PROOFS. The family 42_divider.md: the derived divider and the read of Configuration. -/

namespace Sys2Proof.Machine

/-- The 20 bits of spec R16 store the clamped product exactly: it is below 2^20, so nothing is cut off. -/
theorem dividerOf_toNat (p : U12) (s : U8) : (dividerOf p s).toNat = max 1 ((p.toNat + 1) * s.toNat) := by
  have hfits : max 1 ((p.toNat + 1) * s.toNat) < 2 ^ 20 :=
    max_lt (by decide) ((divider_product_le p s).trans_lt (by decide))
  rw [dividerOf, BitVec.toNat_ofNat, Nat.mod_eq_of_lt hfits]

/-- Spec R110: the product is 0 "only possible when Step = 0", since the prescaler's factor is at least 1. -/
theorem divider_product_eq_zero_iff (p : U12) (s : U8) : (p.toNat + 1) * s.toNat = 0 ↔ s.toNat = 0 := by
  rw [Nat.mul_eq_zero, or_iff_right (Nat.succ_ne_zero _)]

/-- Settles O31: the exact product fits the stored width, and only the step can make it 0. -/
theorem dividerIsClampedProduct : Obligations.DividerIsClampedProduct := by
  intro p s
  exact ⟨dividerOf_toNat p s, divider_product_eq_zero_iff p s, divider_product_le p s⟩

/-- The two fields of the word do not overlap (the prescaler stays below bit 16), so their or is a sum. -/
theorem configWord_toNat (p : U12) (s : U8) : (configWord p s).toNat = s.toNat * 2 ^ 16 + p.toNat := by
  have hp : p.toNat < 2 ^ 16 := p.isLt.trans (by decide)
  have hs : s.toNat < 2 ^ 8 := s.isLt
  have hstep : (s.setWidth 32 <<< 16).toNat = s.toNat <<< 16 := by
    rw [BitVec.toNat_shiftLeft, BitVec.toNat_setWidth_of_le (by decide), Nat.shiftLeft_eq]
    omega
  rw [configWord, BitVec.toNat_or, hstep, BitVec.toNat_setWidth_of_le (by decide),
    ← Nat.shiftLeft_add_eq_or_of_lt hp, Nat.shiftLeft_eq]

theorem configWord_eq_ofNat (p : U12) (s : U8) :
    configWord p s = BitVec.ofNat 32 (s.toNat * 2 ^ 16 + p.toNat) := by
  rw [← configWord_toNat, BitVec.ofNat_toNat, BitVec.setWidth_eq]

theorem exec_rdConfiguration (s : State) :
    exec .rdConfiguration s = respondData (configWord s.blk.prescaler s.blk.step) s := rfl

/-- Settles O10: the answer is the word of the two stored fields, and a read changes the response alone. -/
theorem configurationReadsItsFields : Obligations.ConfigurationReadsItsFields := by
  intro s
  rw [exec_rdConfiguration, respondData_eq, configWord_eq_ofNat]

end Sys2Proof.Machine
end

section
/-! PROOFS. The family 43_interrupt.md: the line's recomputation, InterruptEnable, the read of InterruptStatus, CMPHIT. -/

namespace Sys2Proof.Machine

@[simp] theorem finishEvent_eq (b : Block) (s : State) :
    finishEvent b s = .next { s with blk := b, response := .none } := rfl

/-! ### `Recompute()` -/

/-- Spec R120: "neither gates the test force", which alone raises the line. -/
theorem Block.recompute_line_iff (b : Block) : b.recompute.line = true ↔ b.Match ∨ b.testForce = true := by
  rw [Block.recompute_line, Bool.or_eq_true, Block.cond_iff]

/-- The line is the only element a recomputation can change. -/
theorem Block.recompute_restore_line (b : Block) : { b.recompute with line := b.line } = b := rfl

/-- Settles O32: the line is the compound condition or the test force, and putting the old line back undoes the
recomputation. -/
theorem recomputeGivesTheLineAndNothingElse : Obligations.RecomputeGivesTheLineAndNothingElse := by
  intro b
  exact ⟨b.recompute_line_iff, b.recompute_restore_line⟩

/-! ### The family's stimuli, each by its shared ending -/

theorem exec_rdIntrEnable (s : State) : exec .rdIntrEnable s = respondData (flagWord s.blk.intrEnable) s := rfl

theorem exec_rdIntrStatus (s : State) : exec .rdIntrStatus s = respondData (flagWord s.blk.line) s := rfl

theorem exec_wrIntrEnable (w : U32) (s : State) :
    exec (.wrIntrEnable w) s = respondOk { s.blk with intrEnable := bit0 w }.recompute s := rfl

theorem exec_cmphit (s : State) : exec .cmphit s = finishEvent s.blk.recompute s := rfl

/-- Settles O13: the flag's word is 1 or 0, and a read changes the response alone. -/
theorem intrEnableReadsTheFlag : Obligations.IntrEnableReadsTheFlag := by
  intro s
  rw [exec_rdIntrEnable, respondData_eq, flagWord_eq]

/-- Settles O14: the answer is the stored line itself, stale or not (spec R124: "The read does not recompute"). -/
theorem intrStatusReadsTheLatchedLine : Obligations.IntrStatusReadsTheLatchedLine := by
  intro s
  rw [exec_rdIntrStatus, respondData_eq, flagWord_eq]

/-- Settles O23: bit 0 is the write data's parity, and the line is judged on the current counter and compare value with
the new flag, so a match made while disabled is not lost. -/
theorem intrEnableWriteSetsFlagAndRecomputes : Obligations.IntrEnableWriteSetsFlagAndRecomputes := by
  intro w s
  rw [exec_wrIntrEnable, respondOk_eq, Block.recompute_eq_withLineFor, bit0_eq_decide]

/-- Settles O27: the notification carries no value into the block; the line comes from the stored elements. -/
theorem compareHitRecomputes : Obligations.CompareHitRecomputes := by
  intro s
  rw [exec_cmphit, finishEvent_eq, Block.recompute_eq_withLineFor]

end Sys2Proof.Machine
end

section
/-! PROOFS. The frame decoder and the encoder: which stimulus each class of frames is, and the frame of each bus
access. -/

namespace Sys2Proof

/-! ### The mapped offsets, by register and by number -/

theorem regDecode_eq_none_iff {off : U32} : regDecode off = none ↔ off ∉ mappedOffsets := by
  constructor
  · intro hnone hmem
    have hsome := regDecode_isSome_of_mem hmem
    rw [hnone] at hsome
    cases hsome
  · exact regDecode_of_notMem

theorem mem_mappedOffsets_iff_toNat {off : U32} : off ∈ mappedOffsets ↔
    off.toNat ∈ [0x000, 0x004, 0x100, 0x104, 0x108, 0x10C, 0x110, 0x114, 0x118, 0x11C] := by
  simp [mem_mappedOffsets, ← BitVec.toNat_inj]

/-- Spec R67: the ten offsets are the multiples of 4 below the window's end that miss the hole. -/
theorem toNat_mem_mapped_iff (n : Nat) :
    n ∈ [0x000, 0x004, 0x100, 0x104, 0x108, 0x10C, 0x110, 0x114, 0x118, 0x11C] ↔
      n % 4 = 0 ∧ ¬(0x008 ≤ n ∧ n ≤ 0x0FC) ∧ n < 0x120 := by
  simp only [List.mem_cons, List.not_mem_nil, or_false]
  omega

/-- Settles O2: the map's ten offsets are exactly those in none of the three kinds, and both the decoder and the
well-formedness check answer for what is off the map. -/
theorem unmappedOffsetsAreOfThreeKinds : Obligations.UnmappedOffsetsAreOfThreeKinds := by
  intro off
  constructor
  · rw [regDecode_eq_none_iff, mem_mappedOffsets_iff_toNat, toNat_mem_mapped_iff, Config.windowSize]
    omega
  · rw [isUnmapped_eq_true, regDecode_eq_none_iff]

/-! ### The classes of frames -/

section classes
variable {f : Frame}

theorem Frame.port_eq_iff (n : BitVec 2) : f.port = n ↔ f.key.toNat / 2 ^ 33 % 4 = n.toNat := by
  rw [← BitVec.toNat_inj, Frame.port_toNat]

theorem decode_of_keyTooWide (h : 2 ^ 35 ≤ f.key.toNat) : decode f = .error .keyTooWide := by
  rw [decode, if_neg]
  rw [Frame.keyFits_iff]
  omega

/-- Port 0 is the bus (spec R68). -/
theorem decode_of_bus (h : f.key.toNat / 2 ^ 33 = 0) : decode f = decodeBus f := by
  rw [decode, if_pos, if_pos]
  · rw [Frame.port_eq_iff, h]; rfl
  · rw [Frame.keyFits_iff]; omega

theorem decode_of_read (h : f.key.toNat / 2 ^ 32 = 0) : decode f = .ok (busRead f.off) := by
  rw [decode_of_bus (by omega), decodeBus, if_neg]
  rw [Frame.we_iff]
  omega

theorem decode_of_write (h : f.key.toNat / 2 ^ 32 = 1) (hd : f.data.toNat < 2 ^ 32) :
    decode f = .ok (busWrite f.off f.wdata) := by
  rw [decode_of_bus (by omega), decodeBus, if_pos, if_pos]
  · exact f.wdataFits_iff.mpr hd
  · rw [Frame.we_iff, h]

theorem decode_of_wideWrite (h : f.key.toNat / 2 ^ 32 = 1) (hd : 2 ^ 32 ≤ f.data.toNat) :
    decode f = .error .wdataTooWide := by
  rw [decode_of_bus (by omega), decodeBus, if_pos, if_neg]
  · rw [Frame.wdataFits_iff]; omega
  · rw [Frame.we_iff, h]

theorem decode_of_resetPort (h : f.key.toNat / 2 ^ 33 = 1) : decode f = .ok .reset := by
  rw [decode, if_pos, if_neg, if_pos]
  · rw [Frame.port_eq_iff, h]; rfl
  · rw [Frame.port_eq_iff, h]; decide
  · rw [Frame.keyFits_iff]; omega

theorem decode_of_cmphitPort (h : f.key.toNat / 2 ^ 33 = 2) : decode f = .ok .cmphit := by
  rw [decode, if_pos, if_neg, if_neg, if_pos]
  · rw [Frame.port_eq_iff, h]; rfl
  · rw [Frame.port_eq_iff, h]; decide
  · rw [Frame.port_eq_iff, h]; decide
  · rw [Frame.keyFits_iff]; omega

theorem decode_of_advPort (h : f.key.toNat / 2 ^ 33 = 3) : decode f = .ok (.adv f.data) := by
  rw [decode, if_pos, if_neg, if_neg, if_neg]
  · rw [Frame.port_eq_iff, h]; decide
  · rw [Frame.port_eq_iff, h]; decide
  · rw [Frame.port_eq_iff, h]; decide
  · rw [Frame.keyFits_iff]; omega

end classes

/-- The seven classes of frames, by key and data: no frame falls outside them. -/
inductive Frame.Class (f : Frame) : Prop where
  | read (h : f.key.toNat / 2 ^ 32 = 0)
  | write (h : f.key.toNat / 2 ^ 32 = 1) (hd : f.data.toNat < 2 ^ 32)
  | wideWrite (h : f.key.toNat / 2 ^ 32 = 1) (hd : 2 ^ 32 ≤ f.data.toNat)
  | reset (h : f.key.toNat / 2 ^ 33 = 1)
  | cmphit (h : f.key.toNat / 2 ^ 33 = 2)
  | adv (h : f.key.toNat / 2 ^ 33 = 3)
  | wideKey (h : 2 ^ 35 ≤ f.key.toNat)

theorem Frame.classify (f : Frame) : f.Class := by
  by_cases hwide : 2 ^ 35 ≤ f.key.toNat
  · exact .wideKey hwide
  · have hport : f.key.toNat / 2 ^ 32 = 0 ∨ f.key.toNat / 2 ^ 32 = 1 ∨ f.key.toNat / 2 ^ 33 = 1 ∨
        f.key.toNat / 2 ^ 33 = 2 ∨ f.key.toNat / 2 ^ 33 = 3 := by omega
    obtain h | h | h | h | h := hport
    · exact .read h
    · exact (Nat.lt_or_ge f.data.toNat (2 ^ 32)).elim (.write h) (.wideWrite h)
    · exact .reset h
    · exact .cmphit h
    · exact .adv h

/-- What decodes, and from which frames (spec R68): the inversion of `decode`. -/
theorem decode_eq_ok {f : Frame} {i : Instr} (h : decode f = .ok i) :
    (f.key.toNat / 2 ^ 32 = 0 ∧ i = busRead f.off) ∨
    (f.key.toNat / 2 ^ 32 = 1 ∧ f.data.toNat < 2 ^ 32 ∧ i = busWrite f.off f.wdata) ∨
    (f.key.toNat / 2 ^ 33 = 1 ∧ i = .reset) ∨
    (f.key.toNat / 2 ^ 33 = 2 ∧ i = .cmphit) ∨
    (f.key.toNat / 2 ^ 33 = 3 ∧ i = .adv f.data) := by
  cases f.classify with
  | read hk => rw [decode_of_read hk] at h; cases h; exact .inl ⟨hk, rfl⟩
  | write hk hd => rw [decode_of_write hk hd] at h; cases h; exact .inr (.inl ⟨hk, hd, rfl⟩)
  | wideWrite hk hd => rw [decode_of_wideWrite hk hd] at h; cases h
  | reset hk => rw [decode_of_resetPort hk] at h; cases h; exact .inr (.inr (.inl ⟨hk, rfl⟩))
  | cmphit hk => rw [decode_of_cmphitPort hk] at h; cases h; exact .inr (.inr (.inr (.inl ⟨hk, rfl⟩)))
  | adv hk => rw [decode_of_advPort hk] at h; cases h; exact .inr (.inr (.inr (.inr ⟨hk, rfl⟩)))
  | wideKey hk => rw [decode_of_keyTooWide hk] at h; cases h

/-- Settles O5: of the seven classes the two wide ones are rejected, each under its own name. -/
theorem decodeRejectsExactlyWideFrames : Obligations.DecodeRejectsExactlyWideFrames := by
  intro f
  cases f.classify with
  | read hk => rw [decode_of_read hk]; exact ⟨iff_of_false nofun (by omega), iff_of_false nofun (by omega)⟩
  | write hk hd => rw [decode_of_write hk hd]; exact ⟨iff_of_false nofun (by omega), iff_of_false nofun (by omega)⟩
  | wideWrite hk hd => rw [decode_of_wideWrite hk hd]; exact ⟨iff_of_false nofun (by omega), iff_of_true rfl ⟨hk, hd⟩⟩
  | reset hk => rw [decode_of_resetPort hk]; exact ⟨iff_of_false nofun (by omega), iff_of_false nofun (by omega)⟩
  | cmphit hk => rw [decode_of_cmphitPort hk]; exact ⟨iff_of_false nofun (by omega), iff_of_false nofun (by omega)⟩
  | adv hk => rw [decode_of_advPort hk]; exact ⟨iff_of_false nofun (by omega), iff_of_false nofun (by omega)⟩
  | wideKey hk => rw [decode_of_keyTooWide hk]; exact ⟨iff_of_true rfl hk, iff_of_false nofun (by omega)⟩

/-! ### The frames of the bus accesses -/

theorem readFrame_key_toNat (off : U32) : (readFrame off).key.toNat = off.toNat :=
  BitVec.toNat_setWidth_of_le (by decide)

/-- The `we` bit stands above the offset, so their or is a sum. -/
theorem writeFrame_key_toNat (off w : U32) : (writeFrame off w).key.toNat = 2 ^ 32 + off.toNat := by
  have hwe : (0x100000000#40).toNat = 1 <<< 32 := by decide
  rw [writeFrame, BitVec.toNat_or, hwe, BitVec.toNat_setWidth_of_le (by decide),
    ← Nat.shiftLeft_add_eq_or_of_lt off.isLt, Nat.shiftLeft_eq, Nat.one_mul]

theorem writeFrame_data_toNat (off w : U32) : (writeFrame off w).data.toNat = w.toNat :=
  BitVec.toNat_setWidth_of_le (by decide)

/-- A read's frame may carry any data: spec R60 gives a read none. -/
theorem decode_of_readKey {f : Frame} {off : U32} (h : f.key.toNat = off.toNat) : decode f = .ok (busRead off) := by
  have hlt := off.isLt
  have hoff : f.off = off := by
    rw [← BitVec.toNat_inj, Frame.off_toNat, h, Nat.mod_eq_of_lt hlt]
  rw [decode_of_read (by omega), hoff]

theorem decode_of_writeKey {f : Frame} {off w : U32} (h : f.key.toNat = 2 ^ 32 + off.toNat)
    (hd : f.data.toNat = w.toNat) : decode f = .ok (busWrite off w) := by
  have hlt := off.isLt
  have hoff : f.off = off := by
    rw [← BitVec.toNat_inj, Frame.off_toNat, h]
    omega
  have hwdata : f.wdata = w := by
    rw [← BitVec.toNat_inj, Frame.wdata_toNat, hd, Nat.mod_eq_of_lt w.isLt]
  rw [decode_of_write (by omega) (hd ▸ w.isLt), hoff, hwdata]

theorem decode_readFrame (off : U32) : decode (readFrame off) = .ok (busRead off) :=
  decode_of_readKey (readFrame_key_toNat off)

theorem decode_writeFrame (off w : U32) : decode (writeFrame off w) = .ok (busWrite off w) :=
  decode_of_writeKey (writeFrame_key_toNat off w) (writeFrame_data_toNat off w)

/-- The encoder's key table agrees with the register decoder: at every offset, mapped or not, a read's frame carries
the offset. -/
theorem encode_busRead (off : U32) : encode (busRead off) = readFrame off := by
  cases hr : regDecode off with
  | none => rw [busRead_of_unmapped (regDecode_eq_none_iff.mp hr), encode]
  | some r =>
    obtain rfl := regDecode_eq_some_iff.mp hr
    cases r <;> rfl

/-- As `encode_busRead`, for a write and its data. -/
theorem encode_busWrite (off w : U32) : encode (busWrite off w) = writeFrame off w := by
  cases hr : regDecode off with
  | none => rw [busWrite_of_unmapped (regDecode_eq_none_iff.mp hr), encode]
  | some r =>
    obtain rfl := regDecode_eq_some_iff.mp hr
    cases r <;> rfl

theorem busRead_wf (off : U32) : (busRead off).wf = true := by
  cases hr : regDecode off with
  | none =>
    have hmem := regDecode_eq_none_iff.mp hr
    rw [busRead_of_unmapped hmem, Instr.wf, isUnmapped_eq_true]
    exact hmem
  | some r =>
    obtain rfl := regDecode_eq_some_iff.mp hr
    cases r <;> rfl

theorem busWrite_wf (off w : U32) : (busWrite off w).wf = true := by
  cases hr : regDecode off with
  | none =>
    have hmem := regDecode_eq_none_iff.mp hr
    rw [busWrite_of_unmapped hmem, Instr.wf, isUnmapped_eq_true]
    exact hmem
  | some r =>
    obtain rfl := regDecode_eq_some_iff.mp hr
    cases r <;> rfl

/-- Settles O6: both bus accesses and both other events are well formed, which leaves `ADV` and its amount. -/
theorem decodedStimulusIsWellFormed : Obligations.DecodedStimulusIsWellFormed := by
  intro f i h
  obtain ⟨-, rfl⟩ | ⟨-, -, rfl⟩ | ⟨-, rfl⟩ | ⟨-, rfl⟩ | ⟨-, rfl⟩ := decode_eq_ok h
  · exact .inl (busRead_wf f.off)
  · exact .inl (busWrite_wf f.off f.wdata)
  · exact .inl rfl
  · exact .inl rfl
  · by_cases hd : f.data = 0
    · exact .inr (congrArg Instr.adv hd)
    · exact .inl (bne_iff_ne.mpr hd)

/-! ### The round trips -/

/-- Spec R60: every stimulus is a bus access at some offset or one of the three events. -/
theorem wf_isBusAccess_or_event {i : Instr} (h : i.wf = true) :
    (∃ off, i = busRead off) ∨ (∃ off w, i = busWrite off w) ∨ i = .reset ∨ i = .cmphit ∨ ∃ d, i = .adv d :=
  match i, h with
  | .rdAlertTest, _ => .inl ⟨0x000, rfl⟩
  | .rdControl0, _ => .inl ⟨0x004, rfl⟩
  | .rdConfiguration, _ => .inl ⟨0x100, rfl⟩
  | .rdValueLow, _ => .inl ⟨0x104, rfl⟩
  | .rdValueHigh, _ => .inl ⟨0x108, rfl⟩
  | .rdCompareLow, _ => .inl ⟨0x10C, rfl⟩
  | .rdCompareHigh, _ => .inl ⟨0x110, rfl⟩
  | .rdIntrEnable, _ => .inl ⟨0x114, rfl⟩
  | .rdIntrStatus, _ => .inl ⟨0x118, rfl⟩
  | .rdIntrTest, _ => .inl ⟨0x11C, rfl⟩
  | .rdUnmapped off, h => .inl ⟨off, (busRead_of_unmapped (isUnmapped_eq_true.mp h)).symm⟩
  | .wrAlertTest w, _ => .inr (.inl ⟨0x000, w, rfl⟩)
  | .wrControl0 w, _ => .inr (.inl ⟨0x004, w, rfl⟩)
  | .wrConfiguration w, _ => .inr (.inl ⟨0x100, w, rfl⟩)
  | .wrValueLow w, _ => .inr (.inl ⟨0x104, w, rfl⟩)
  | .wrValueHigh w, _ => .inr (.inl ⟨0x108, w, rfl⟩)
  | .wrCompareLow w, _ => .inr (.inl ⟨0x10C, w, rfl⟩)
  | .wrCompareHigh w, _ => .inr (.inl ⟨0x110, w, rfl⟩)
  | .wrIntrEnable w, _ => .inr (.inl ⟨0x114, w, rfl⟩)
  | .wrIntrStatus w, _ => .inr (.inl ⟨0x118, w, rfl⟩)
  | .wrIntrTest w, _ => .inr (.inl ⟨0x11C, w, rfl⟩)
  | .wrUnmapped off w, h => .inr (.inl ⟨off, w, (busWrite_of_unmapped (isUnmapped_eq_true.mp h)).symm⟩)
  | .reset, _ => .inr (.inr (.inl rfl))
  | .cmphit, _ => .inr (.inr (.inr (.inl rfl)))
  | .adv d, _ => .inr (.inr (.inr (.inr ⟨d, rfl⟩)))

theorem encode_reset_port : (encode .reset).key.toNat / 2 ^ 33 = 1 := by
  decide

theorem encode_adv_port (d : U64) : (encode (.adv d)).key.toNat / 2 ^ 33 = 3 := by
  show (0x600000000#40).toNat / 2 ^ 33 = 3
  decide

/-- No bus access is an event: its port is 0. -/
theorem encode_busAccess_port (k : AccessKind) (off w : U32) :
    (encode (busAccess k off w)).key.toNat / 2 ^ 33 = 0 := by
  have hlt := off.isLt
  cases k with
  | read => rw [busAccess, encode_busRead, readFrame_key_toNat]; omega
  | write => rw [busAccess, encode_busWrite, writeFrame_key_toNat]; omega

theorem busAccess_ne_adv (k : AccessKind) (off w : U32) (d : U64) : busAccess k off w ≠ .adv d := by
  intro h
  have hport := encode_busAccess_port k off w
  rw [h, encode_adv_port] at hport
  cases hport

theorem busAccess_ne_reset (k : AccessKind) (off w : U32) : busAccess k off w ≠ .reset := by
  intro h
  have hport := encode_busAccess_port k off w
  rw [h, encode_reset_port] at hport
  cases hport

/-- Settles O3: a stimulus is a bus access, whose frame is that of its kind at its offset, or an event, whose port
alone selects it. -/
theorem decodeEncodeEveryStimulus : Obligations.DecodeEncodeEveryStimulus := by
  intro i h
  obtain ⟨off, rfl⟩ | ⟨off, w, rfl⟩ | rfl | rfl | ⟨d, rfl⟩ := wf_isBusAccess_or_event h
  · rw [encode_busRead, decode_readFrame]
  · rw [encode_busWrite, decode_writeFrame]
  · rfl
  · rfl
  · exact decode_of_advPort (encode_adv_port d)

theorem readFrame_key {f : Frame} (h : f.key.toNat / 2 ^ 32 = 0) : (readFrame f.off).key = f.key := by
  rw [← BitVec.toNat_inj, readFrame_key_toNat, Frame.off_toNat]
  omega

theorem writeFrame_key {f : Frame} (h : f.key.toNat / 2 ^ 32 = 1) : (writeFrame f.off f.wdata).key = f.key := by
  rw [← BitVec.toNat_inj, writeFrame_key_toNat, Frame.off_toNat]
  omega

theorem writeFrame_data {f : Frame} (h : f.data.toNat < 2 ^ 32) : (writeFrame f.off f.wdata).data = f.data := by
  rw [← BitVec.toNat_inj, writeFrame_data_toNat, Frame.wdata_toNat, Nat.mod_eq_of_lt h]

/-- Settles O4: a bus frame is rebuilt from its offset (and a write's data); an event's key has the event's port. -/
theorem encodeGivesBackTheFrame : Obligations.EncodeGivesBackTheFrame := by
  intro f i h
  obtain ⟨hk, rfl⟩ | ⟨hk, hd, rfl⟩ | ⟨hk, rfl⟩ | ⟨hk, rfl⟩ | ⟨hk, rfl⟩ := decode_eq_ok h
  · rw [encode_busRead, readFrame_key hk]
    exact ⟨fun _ => rfl, rfl, by omega⟩
  · rw [encode_busWrite, writeFrame_key hk, writeFrame_data hd]
    exact ⟨fun _ => rfl, rfl, fun _ => rfl⟩
  · rw [encode, hk]
    exact ⟨by omega, by decide, by omega⟩
  · rw [encode, hk]
    exact ⟨by omega, by decide, by omega⟩
  · rw [encode_adv_port, hk]
    exact ⟨by omega, rfl, fun _ => rfl⟩

/-- Settles O7: each word's key falls in its row of spec R68, and its data is the field from bit 40 up. -/
theorem tableWordsDecode : Obligations.TableWordsDecode := by
  unfold Obligations.TableWordsDecode
  decide

end Sys2Proof
end

section
/-! PROOFS. Every stimulus as one function of the block: an edit of its elements, a recomputation at the recompute
points, an answer. The rules over all stimuli follow from it. -/

namespace Sys2Proof.Machine

/-! ### The remaining stimuli, each by its shared ending -/

theorem exec_rdAlertTest (s : State) : exec .rdAlertTest s = respondData 0 s := rfl

theorem exec_wrAlertTest (w : U32) (s : State) : exec (.wrAlertTest w) s = respondOk s.blk s := rfl

theorem exec_wrConfiguration (w : U32) (s : State) :
    exec (.wrConfiguration w) s = respondOk (s.blk.configure w) s := rfl

theorem exec_rdCompareLow (s : State) : exec .rdCompareLow s = respondData (lowHalf s.blk.compare) s := rfl

theorem exec_rdCompareHigh (s : State) : exec .rdCompareHigh s = respondData (highHalf s.blk.compare) s := rfl

theorem exec_wrIntrStatus (w : U32) (s : State) : exec (.wrIntrStatus w) s = respondOk s.blk.recompute s := rfl

theorem exec_rdIntrTest (s : State) : exec .rdIntrTest s = respondData 0 s := rfl

theorem exec_wrIntrTest (w : U32) (s : State) : exec (.wrIntrTest w) s =
    respondOk (if bit0 w then { s.blk with testForce := true, line := true } else s.blk) s := by
  show (if bit0 w then respondOk { s.blk with testForce := true, line := true } s else respondOk s.blk s) = _
  cases bit0 w <;> rfl

theorem exec_reset (s : State) : exec .reset s = finishEvent Block.s0 s := rfl

theorem exec_adv_enabled {s : State} (d : U64) (h : s.blk.enabled = true) :
    exec (.adv d) s = finishEvent { s.blk with counter := s.blk.counter + d } s :=
  if_pos h

theorem exec_adv_disabled {s : State} (d : U64) (h : s.blk.enabled = false) :
    exec (.adv d) s = .fault .advWhileDisabled :=
  if_neg (Bool.eq_false_iff.mp h)

/-- The counter's sum as the statements write it, by number. -/
theorem add_eq_ofNat (c d : U64) : c + d = BitVec.ofNat 64 ((c.toNat + d.toNat) % 2 ^ 64) := by
  rw [← BitVec.toNat_add, BitVec.ofNat_toNat, BitVec.setWidth_eq]

/-- Settles O8: neither register has a readable field. -/
theorem alertTestAndIntrTestReadZero : Obligations.AlertTestAndIntrTestReadZero := by
  intro s
  constructor
  · rw [exec_rdAlertTest, respondData_eq]
  · rw [exec_rdIntrTest, respondData_eq]

/-- Settles O12: the answers are the compare value's remainder and quotient by 2^32, and a read changes the response
alone. -/
theorem compareReadsCompareHalves : Obligations.CompareReadsCompareHalves := by
  intro s
  constructor
  · rw [exec_rdCompareLow, respondData_eq, lowHalf_eq_ofNat]
  · rw [exec_rdCompareHigh, respondData_eq, highHalf_eq_ofNat]

/-- Settles O16: the write is answered with the block as it was. -/
theorem alertTestWriteHasNoEffect : Obligations.AlertTestWriteHasNoEffect := by
  intro w s
  rw [exec_wrAlertTest, respondOk_eq]

theorem prescalerField_eq_ofNat (w : U32) : prescalerField w = BitVec.ofNat 12 (w.toNat % 2 ^ 12) := by
  rw [← prescalerField_toNat, BitVec.ofNat_toNat, BitVec.setWidth_eq]

theorem stepField_eq_ofNat (w : U32) : stepField w = BitVec.ofNat 8 (w.toNat / 2 ^ 16 % 2 ^ 8) := by
  rw [← stepField_toNat, BitVec.ofNat_toNat, BitVec.setWidth_eq]

/-- Settles O18: the divider is that of the two new fields, and the tick engine reads the stored one. -/
theorem configurationWriteSetsFieldsAndDivider : Obligations.ConfigurationWriteSetsFieldsAndDivider := by
  intro w s
  refine ⟨_, by rw [exec_wrConfiguration, respondOk_eq], ?_, ?_, rfl⟩
  · rw [Block.configure_divider, ← prescalerField_eq_ofNat, ← stepField_eq_ofNat, Block.configure]
  · rw [Block.configure_divider, dividerOf_toNat, prescalerField_toNat, stepField_toNat]

/-- Settles O24: the ending recomputes, and the data does not stand in it. -/
theorem intrStatusWriteOnlyRecomputes : Obligations.IntrStatusWriteOnlyRecomputes := by
  intro w s
  rw [exec_wrIntrStatus, respondOk_eq, Block.recompute_eq_withLineFor]

/-- Settles O25: the write's two branches are told apart by bit 0, which is the data's parity. -/
theorem intrTestWriteForcesOrDoesNothing : Obligations.IntrTestWriteForcesOrDoesNothing := by
  intro w s
  rw [exec_wrIntrTest, respondOk_eq]
  simp only [bit0_iff]

/-- Settles O28: the 64-bit addition is the sum modulo 2^64, with no recomputation after it. -/
theorem advanceAddsModulo : Obligations.AdvanceAddsModulo := by
  intro d s hen _
  rw [exec_adv_enabled d hen, finishEvent_eq, add_eq_ofNat]

/-- Settles O29: the cleared block recomputed is `S0`, whatever it was. -/
theorem resetGivesTheResetBlock : Obligations.ResetGivesTheResetBlock := by
  intro s
  rw [exec_reset, finishEvent_eq]
  rfl

/-- Settles O30: the ten reads of `S0`, evaluated. -/
theorem registersReadTheirResetValues : Obligations.RegistersReadTheirResetValues := by
  refine ⟨?_, rfl, rfl⟩
  simp only [List.forall_mem_cons, List.not_mem_nil, false_imp_iff, implies_true, and_true]
  exact ⟨rfl, rfl, rfl, rfl, rfl, rfl, rfl, rfl, rfl, rfl⟩

/-- Settles O35: the block after a `RESET` is the constant `S0`. -/
theorem resetForgetsAndIsIdempotent : Obligations.ResetForgetsAndIsIdempotent := by
  intro s s'
  exact ⟨_, _, exec_reset s, exec_reset s', rfl, rfl, exec_reset _⟩

/-! ### Every stimulus as one function of the block -/

/-- What a stimulus does to the elements before it recomputes, if it does. -/
def Block.edit (b : Block) : Instr → Block
  | .wrControl0 w => { b with enabled := bit0 w }
  | .wrConfiguration w => b.configure w
  | .wrValueLow w => { b with counter := withLow b.counter w }
  | .wrValueHigh w => { b with counter := withHigh b.counter w }
  | .wrCompareLow w => { b with compare := withLow b.compare w }
  | .wrCompareHigh w => { b with compare := withHigh b.compare w }
  | .wrIntrEnable w => { b with intrEnable := bit0 w }
  | .wrIntrTest w => { b with testForce := b.testForce || bit0 w, line := b.line || bit0 w }
  | .reset => b.cleared
  | .adv d => { b with counter := b.counter + d }
  | _ => b

/-- The block after a stimulus. -/
def Block.after (b : Block) (i : Instr) : Block := if recomputes i then (b.edit i).recompute else b.edit i

/-- The answer to a stimulus. -/
def Block.answer (b : Block) : Instr → Response
  | .rdAlertTest => .data 0
  | .rdControl0 => .data (flagWord b.enabled)
  | .rdConfiguration => .data (configWord b.prescaler b.step)
  | .rdValueLow => .data (lowHalf b.counter)
  | .rdValueHigh => .data (highHalf b.counter)
  | .rdCompareLow => .data (lowHalf b.compare)
  | .rdCompareHigh => .data (highHalf b.compare)
  | .rdIntrEnable => .data (flagWord b.intrEnable)
  | .rdIntrStatus => .data (flagWord b.line)
  | .rdIntrTest => .data 0
  | .rdUnmapped off => .fault .read off
  | .wrUnmapped off _ => .fault .write off
  | .reset => .none
  | .cmphit => .none
  | .adv _ => .none
  | _ => .ok

/-- The machine after a stimulus that is accepted. -/
def State.after (s : State) (i : Instr) : State := ⟨s.blk.after i, s.blk.answer i, s.inbox⟩

@[simp] theorem State.after_blk (s : State) (i : Instr) : (s.after i).blk = s.blk.after i := rfl

/-- A stimulus the machine is stuck on: `ADV` while not enabled (log 5). -/
def Stuck (i : Instr) (s : State) : Prop := ∃ d, i = .adv d ∧ s.blk.enabled = false

theorem not_stuck_of_ne_adv {i : Instr} {s : State} (h : ∀ d, i ≠ .adv d) : ¬ Stuck i s :=
  fun ⟨d, hi, _⟩ => h d hi

theorem exec_of_stuck {i : Instr} {s : State} (h : Stuck i s) : exec i s = .fault .advWhileDisabled := by
  obtain ⟨d, rfl, hdis⟩ := h
  exact exec_adv_disabled d hdis

theorem Block.after_wrIntrTest (b : Block) (w : U32) :
    b.after (.wrIntrTest w) = if bit0 w then { b with testForce := true, line := true } else b := by
  show { b with testForce := b.testForce || bit0 w, line := b.line || bit0 w } = _
  cases bit0 w
  · simp only [Bool.or_false, Bool.false_eq_true, if_false]
  · simp only [Bool.or_true, if_true]

/-- Once for all stimuli, what `exec` does. -/
theorem exec_of_not_stuck {i : Instr} {s : State} (h : ¬ Stuck i s) : exec i s = .next (s.after i) := by
  cases i with
  | wrIntrTest w =>
    rw [exec_wrIntrTest, respondOk_eq, ← Block.after_wrIntrTest]
    rfl
  | adv d =>
    have hen : s.blk.enabled = true := by
      by_contra hne
      exact h ⟨d, rfl, Bool.eq_false_iff.mpr hne⟩
    rw [exec_adv_enabled d hen]
    rfl
  | _ => rfl

theorem exec_next_iff {i : Instr} {s t : State} : exec i s = .next t ↔ ¬ Stuck i s ∧ s.after i = t := by
  by_cases h : Stuck i s
  · simp [exec_of_stuck h, h]
  · simp [exec_of_not_stuck h, h]

theorem exec_next {i : Instr} {s t : State} (h : exec i s = .next t) : t = s.after i :=
  (exec_next_iff.mp h).2.symm

end Sys2Proof.Machine
end

section
/-! PROOFS. Rules over all stimuli: which element each one changes, when the line moves, what never stops. -/

namespace Sys2Proof.Machine

/-! ### A stimulus changes the eight other elements by its edit, and the line last -/

section after
variable (b : Block) (i : Instr)
@[simp] theorem Block.after_counter : (b.after i).counter = (b.edit i).counter := by
  rw [Block.after]; split <;> rfl
@[simp] theorem Block.after_compare : (b.after i).compare = (b.edit i).compare := by
  rw [Block.after]; split <;> rfl
@[simp] theorem Block.after_enabled : (b.after i).enabled = (b.edit i).enabled := by
  rw [Block.after]; split <;> rfl
@[simp] theorem Block.after_prescaler : (b.after i).prescaler = (b.edit i).prescaler := by
  rw [Block.after]; split <;> rfl
@[simp] theorem Block.after_step : (b.after i).step = (b.edit i).step := by
  rw [Block.after]; split <;> rfl
@[simp] theorem Block.after_divider : (b.after i).divider = (b.edit i).divider := by
  rw [Block.after]; split <;> rfl
@[simp] theorem Block.after_intrEnable : (b.after i).intrEnable = (b.edit i).intrEnable := by
  rw [Block.after]; split <;> rfl
@[simp] theorem Block.after_testForce : (b.after i).testForce = (b.edit i).testForce := by
  rw [Block.after]; split <;> rfl
end after

theorem Block.after_of_recomputes {i : Instr} (b : Block) (h : recomputes i = true) :
    b.after i = (b.edit i).recompute :=
  if_pos h

theorem Block.after_of_not_recomputes {i : Instr} (b : Block) (h : recomputes i = false) : b.after i = b.edit i :=
  if_neg (Bool.eq_false_iff.mp h)

/-- Spec R127: the force is the one edit that touches the line. -/
theorem Block.edit_line (b : Block) (i : Instr) : (b.edit i).line = (b.line || forcesLine i) := by
  cases i with
  | wrIntrTest w => exact congrArg (b.line || ·) (bit0_eq_decide w)
  | _ => exact (Bool.or_false _).symm

/-- The test force is a latch that a force sets and `RESET` alone clears (D7). -/
theorem Block.edit_testForce {i : Instr} (b : Block) (h : i ≠ .reset) :
    (b.edit i).testForce = (b.testForce || forcesLine i) := by
  cases i with
  | wrIntrTest w => exact congrArg (b.testForce || ·) (bit0_eq_decide w)
  | reset => exact absurd rfl h
  | _ => exact (Bool.or_false _).symm

theorem Block.recompute_lineCurrent (b : Block) : b.recompute.LineCurrent := (Block.lineFor_eq b).symm

theorem Block.after_lineCurrent_of_recomputes {i : Instr} (b : Block) (h : recomputes i = true) :
    (b.after i).LineCurrent := by
  rw [Block.after_of_recomputes b h]
  exact Block.recompute_lineCurrent _

theorem Block.after_line_of_not_recomputes {i : Instr} (b : Block) (h : recomputes i = false) :
    (b.after i).line = (b.line || forcesLine i) := by
  rw [Block.after_of_not_recomputes b h, Block.edit_line]

theorem not_recomputes_of_forcesLine {i : Instr} (h : forcesLine i = true) : recomputes i = false := by
  cases i with
  | wrIntrTest w => rfl
  | _ => cases h

theorem Block.lineCurrent_iff {b : Block} : b.LineCurrent ↔ (b.line = true ↔ b.Match ∨ b.testForce = true) := by
  rw [Block.LineCurrent, Bool.eq_iff_iff, Block.lineFor, decide_eq_true_iff]

/-! ### The writers of each element -/

section writers
variable {b : Block} {i : Instr}

theorem writer_of_edit_counter (hi : i ≠ .reset) (h : (b.edit i).counter ≠ b.counter) :
    (∃ w, i = .wrValueLow w ∨ i = .wrValueHigh w) ∨ ∃ d, i = .adv d := by
  cases i with
  | wrValueLow w => exact .inl ⟨w, .inl rfl⟩
  | wrValueHigh w => exact .inl ⟨w, .inr rfl⟩
  | adv d => exact .inr ⟨d, rfl⟩
  | reset => exact absurd rfl hi
  | _ => exact absurd rfl h

theorem writer_of_edit_compare (hi : i ≠ .reset) (h : (b.edit i).compare ≠ b.compare) :
    ∃ w, i = .wrCompareLow w ∨ i = .wrCompareHigh w := by
  cases i with
  | wrCompareLow w => exact ⟨w, .inl rfl⟩
  | wrCompareHigh w => exact ⟨w, .inr rfl⟩
  | reset => exact absurd rfl hi
  | _ => exact absurd rfl h

theorem writer_of_edit_enabled (hi : i ≠ .reset) (h : (b.edit i).enabled ≠ b.enabled) :
    ∃ w, i = .wrControl0 w := by
  cases i with
  | wrControl0 w => exact ⟨w, rfl⟩
  | reset => exact absurd rfl hi
  | _ => exact absurd rfl h

/-- Configuration's two fields and the divider derived from them move together. -/
theorem writer_of_edit_configuration (hi : i ≠ .reset)
    (h : (b.edit i).prescaler ≠ b.prescaler ∨ (b.edit i).step ≠ b.step ∨ (b.edit i).divider ≠ b.divider) :
    ∃ w, i = .wrConfiguration w := by
  cases i with
  | wrConfiguration w => exact ⟨w, rfl⟩
  | reset => exact absurd rfl hi
  | _ => exact absurd h (by rintro (h | h | h) <;> exact h rfl)

theorem writer_of_edit_intrEnable (hi : i ≠ .reset) (h : (b.edit i).intrEnable ≠ b.intrEnable) :
    ∃ w, i = .wrIntrEnable w := by
  cases i with
  | wrIntrEnable w => exact ⟨w, rfl⟩
  | reset => exact absurd rfl hi
  | _ => exact absurd rfl h

theorem writer_of_edit_testForce (hi : i ≠ .reset) (h : (b.edit i).testForce ≠ b.testForce) :
    ∃ w, i = .wrIntrTest w := by
  cases i with
  | wrIntrTest w => exact ⟨w, rfl⟩
  | reset => exact absurd rfl hi
  | _ => exact absurd rfl h

end writers

/-- Settles O36: an element after a stimulus is the edited one, and each edit names the elements it sets. -/
theorem onlyItsWritersChangeAnElement : Obligations.OnlyItsWritersChangeAnElement := by
  intro i s t h hi
  obtain rfl := exec_next h
  simp only [State.after_blk, Block.after_counter, Block.after_compare, Block.after_enabled, Block.after_prescaler,
    Block.after_step, Block.after_divider, Block.after_intrEnable, Block.after_testForce]
  exact ⟨writer_of_edit_counter hi, writer_of_edit_compare hi, writer_of_edit_enabled hi,
    writer_of_edit_configuration hi, writer_of_edit_intrEnable hi, writer_of_edit_testForce hi⟩

/-! ### The line -/

/-- Settles O37: a recompute point ends in `Recompute()`, and no other stimulus but the force edits the line. -/
theorem lineMovesAtRecomputePointsOnly : Obligations.LineMovesAtRecomputePointsOnly := by
  intro i s t h
  obtain rfl := exec_next h
  refine ⟨s.blk.after_lineCurrent_of_recomputes, ?_, ?_⟩
  · intro hrec hforce
    rw [State.after_blk, Block.after_line_of_not_recomputes _ hrec, hforce, Bool.or_false]
  · intro hforce
    rw [State.after_blk, Block.after_line_of_not_recomputes _ (not_recomputes_of_forcesLine hforce), hforce,
      Bool.or_true]

/-- A recompute point sets no force: with none before it, there is none after it. -/
theorem Block.after_testForce_of_recomputes {i : Instr} {b : Block} (h : recomputes i = true)
    (hb : b.testForce = false) : (b.after i).testForce = false := by
  have hforce : forcesLine i = false := by
    by_contra hf
    rw [not_recomputes_of_forcesLine (Bool.eq_true_of_not_eq_false hf)] at h
    cases h
  by_cases hi : i = .reset
  · rw [hi]; rfl
  · rw [Block.after_testForce, Block.edit_testForce b hi, hb, hforce]; rfl

/-- From Deasserted (spec R121). -/
theorem Block.after_line_of_low {b : Block} (i : Instr) (hforce : b.testForce = false) (hlow : b.line = false) :
    (b.after i).line = true ↔ (recomputes i = true ∧ (b.after i).Match) ∨ forcesLine i = true := by
  cases hrec : recomputes i with
  | true =>
    have hnf : forcesLine i ≠ true := fun hf => by
      rw [not_recomputes_of_forcesLine hf] at hrec
      cases hrec
    rw [Block.lineCurrent_iff.mp (b.after_lineCurrent_of_recomputes hrec),
      Block.after_testForce_of_recomputes hrec hforce]
    simp [hnf]
  | false =>
    rw [Block.after_line_of_not_recomputes b hrec, hlow]
    simp

/-- From Asserted (spec R121). `RESET` needs no case of its own: it is a recompute point whose result is low. -/
theorem Block.after_line_of_high {b : Block} (i : Instr) (hhigh : b.line = true) :
    (b.after i).line = false ↔
      recomputes i = true ∧ ¬ (b.after i).Match ∧ (b.after i).testForce = false := by
  cases hrec : recomputes i with
  | true =>
    rw [← Bool.not_eq_true, Block.lineCurrent_iff.mp (b.after_lineCurrent_of_recomputes hrec), not_or,
      Bool.not_eq_true]
    simp
  | false =>
    rw [Block.after_line_of_not_recomputes b hrec, hhigh]
    simp

theorem Block.after_reset (b : Block) : b.after .reset = Block.s0 := rfl

/-- Settles O38: I-force rules out a force while the line is low; the rest is the line after a recompute point or
after none. -/
theorem lineTransitionsAreThoseOfTheStateMachine : Obligations.LineTransitionsAreThoseOfTheStateMachine := by
  intro i s t hinv h
  obtain rfl := exec_next h
  constructor
  · intro hlow
    have hforce : s.blk.testForce = false := by
      by_contra hf
      rw [hinv (Bool.eq_true_of_not_eq_false hf)] at hlow
      cases hlow
    exact Block.after_line_of_low i hforce hlow
  · intro hhigh
    have hreset : i = .reset → recomputes i = true ∧ ¬ (s.blk.after i).Match ∧ (s.blk.after i).testForce = false := by
      rintro rfl
      rw [Block.after_reset]
      exact ⟨rfl, by decide, rfl⟩
    exact (Block.after_line_of_high i hhigh).trans (or_iff_left_of_imp hreset).symm

/-! ### Repetition, faults, acceptance, the divider -/

theorem withLow_withLow (v : U64) (w : U32) : withLow (withLow v w) w = withLow v w :=
  eq_of_halves (by simp) (by simp)

theorem withHigh_withHigh (v : U64) (w : U32) : withHigh (withHigh v w) w = withHigh v w :=
  eq_of_halves (by simp) (by simp)

/-- Each of spec R46's writes stores what its data says, so storing it again stores the same; the second
recomputation judges the same elements. -/
theorem Block.after_after_of_isIdempotentWrite (b : Block) {i : Instr} (hi : isIdempotentWrite i = true) :
    (b.after i).after i = b.after i :=
  match i, hi with
  | .wrControl0 _, _ => rfl
  | .wrConfiguration _, _ => rfl
  | .wrValueLow w, _ =>
    congrArg (fun c => { b with counter := c }.recompute) (withLow_withLow b.counter w)
  | .wrValueHigh w, _ =>
    congrArg (fun c => { b with counter := c }.recompute) (withHigh_withHigh b.counter w)
  | .wrCompareLow w, _ =>
    congrArg (fun c => { b with compare := c }.recompute) (withLow_withLow b.compare w)
  | .wrCompareHigh w, _ =>
    congrArg (fun c => { b with compare := c }.recompute) (withHigh_withHigh b.compare w)
  | .wrIntrEnable _, _ => rfl
  | .wrIntrTest w, _ => by
    rw [Block.after_wrIntrTest, Block.after_wrIntrTest]
    cases bit0 w <;> rfl

theorem answer_of_isIdempotentWrite (b : Block) {i : Instr} (hi : isIdempotentWrite i = true) : b.answer i = .ok :=
  match i, hi with
  | .wrControl0 _, _ | .wrConfiguration _, _ | .wrValueLow _, _ | .wrValueHigh _, _ | .wrCompareLow _, _
  | .wrCompareHigh _, _ | .wrIntrEnable _, _ | .wrIntrTest _, _ => rfl

theorem ne_adv_of_isIdempotentWrite {i : Instr} (hi : isIdempotentWrite i = true) (d : U64) : i ≠ .adv d := by
  rintro rfl
  cases hi

/-- Settles O34: repeated, the write finds its own block and gives the same answer, `ok`. -/
theorem repeatedWriteIsOneWrite : Obligations.RepeatedWriteIsOneWrite := by
  intro i s t hi h
  obtain rfl := exec_next h
  rw [exec_of_not_stuck (not_stuck_of_ne_adv (ne_adv_of_isIdempotentWrite hi))]
  simp only [State.after, Block.after_after_of_isIdempotentWrite _ hi, answer_of_isIdempotentWrite _ hi]

theorem unmapped_of_answer_fault {b : Block} {i : Instr} {k : AccessKind} {off : U32}
    (h : b.answer i = .fault k off) :
    (k = .read ∧ i = .rdUnmapped off) ∨ (k = .write ∧ ∃ w, i = .wrUnmapped off w) := by
  cases i with
  | rdUnmapped off' => cases h; exact .inl ⟨rfl, rfl⟩
  | wrUnmapped off' w => cases h; exact .inr ⟨rfl, w, rfl⟩
  | _ => cases h

/-- Settles O39: the two unmapped accesses alone answer a fault, and neither edits or recomputes. -/
theorem faultOnlyFromUnmappedAndHarmless : Obligations.FaultOnlyFromUnmappedAndHarmless := by
  intro i s t k off h hfault
  obtain rfl := exec_next h
  have hi := unmapped_of_answer_fault hfault
  refine ⟨?_, rfl, hi⟩
  obtain ⟨-, rfl⟩ | ⟨-, w, rfl⟩ := hi <;> rfl

/-- Settles O40: the one stop of `exec` is the stuck `ADV`. -/
theorem everyStimulusAcceptedButAdvWhileDisabled : Obligations.EveryStimulusAcceptedButAdvWhileDisabled := by
  intro i s
  refine ⟨⟨?_, ?_⟩, exec_of_stuck⟩
  · rintro ⟨t, ht⟩
    exact (exec_next_iff.mp ht).1
  · intro h
    exact ⟨s.after i, exec_of_not_stuck h⟩

/-- Spec R34: a `Configuration` write and `RESET` replace the divider, every other stimulus carries it along. -/
theorem Block.after_divider_only (b : Block) (i : Instr) (d : U20) :
    ∃ d' : U20, { b with divider := d }.after i = { b.after i with divider := d' } := by
  cases i with
  | wrConfiguration w => exact ⟨_, rfl⟩
  | reset => exact ⟨1, rfl⟩
  | _ => exact ⟨d, rfl⟩

theorem Block.answer_divider_irrelevant (b : Block) (i : Instr) (d : U20) :
    { b with divider := d }.answer i = b.answer i := by
  cases i <;> rfl

/-- Settles O41: neither the answer nor any other element of the block after looks at the divider. -/
theorem dividerIsInvisibleToSoftware : Obligations.DividerIsInvisibleToSoftware := by
  intro i s t d h
  obtain ⟨hstuck, rfl⟩ := exec_next_iff.mp h
  obtain ⟨d', hd'⟩ := s.blk.after_divider_only i d
  have hstuck' : ¬ Stuck i { s with blk := { s.blk with divider := d } } := hstuck
  refine ⟨d', ?_⟩
  rw [exec_of_not_stuck hstuck', State.after, hd', Block.answer_divider_irrelevant]
  rfl

end Sys2Proof.Machine
end

section
/-! PROOFS. The step: the bus boundary, the engine's requests, and what serving a request does to the block. -/

namespace Sys2Proof.Machine

theorem step_of_inbox {s : State} {r : Request} {rest : List Request} (h : s.inbox = r :: rest) :
    Sys2Proof.Machine.step s = serve r { s with inbox := rest } := by
  rw [Sys2Proof.Machine.step, serveNext, h]

theorem step_of_empty {s : State} (h : s.inbox = []) : Sys2Proof.Machine.step s = .refused .noStimulus := by
  rw [Sys2Proof.Machine.step, serveNext, h]

theorem serveFrame_of_decode {f : Frame} {i : Instr} (s : State) (hd : decode f = .ok i) (hwf : i.wf = true) :
    serveFrame f s = exec i s := by
  simp only [serveFrame, hd, hwf, if_true]

theorem step_of_stimulus {s : State} {f : Frame} {rest : List Request} {i : Instr}
    (h : s.inbox = .stimulus f :: rest) (hd : decode f = .ok i) (hwf : i.wf = true) :
    Sys2Proof.Machine.step s = exec i { s with inbox := rest } := by
  rw [step_of_inbox h, serve, serveFrame_of_decode _ hd hwf]

/-- Settles O46: the head of the inbox is decoded, found well formed and executed. -/
theorem stepRunsTheDecodedStimulus : Obligations.StepRunsTheDecodedStimulus := by
  intro s f rest i h hd hwf
  exact step_of_stimulus h hd hwf

/-! ### The bus boundary -/

theorem busAccess_wf (k : AccessKind) (off w : U32) : (busAccess k off w).wf = true := by
  cases k with
  | read => exact busRead_wf off
  | write => exact busWrite_wf off w

/-- Settles O48: away from the ten offsets the frame decodes to the unmapped access of its kind, whose fault is its
whole effect. -/
theorem stepFaultsOnEveryOtherOffset : Obligations.StepFaultsOnEveryOtherOffset := by
  intro s f rest off h hoff
  rw [← mem_mappedOffsets_iff_toNat] at hoff
  constructor
  · intro hk
    have hd : decode f = .ok (busRead off) := decode_of_readKey hk
    rw [step_of_stimulus h hd (busRead_wf off), busRead_of_unmapped hoff, exec_rdUnmapped, raiseUnmapped_eq]
  · intro hk hdata
    have hw : f.data.toNat = f.wdata.toNat := by rw [Frame.wdata_toNat, Nat.mod_eq_of_lt hdata]
    have hd : decode f = .ok (busWrite off f.wdata) := decode_of_writeKey hk hw
    rw [step_of_stimulus h hd (busWrite_wf off f.wdata), busWrite_of_unmapped hoff, exec_wrUnmapped,
      raiseUnmapped_eq]

/-- `MemRead` and `MemWrite` at `BASE + off` are the accesses at `off` (spec R53). -/
theorem serveAccess_at_base (k : AccessKind) (off w : U32) (s : State) :
    serveAccess ⟨k, Config.base + off.toNat, 4, w⟩ s = exec (busAccess k off w) s := by
  have hrouted : Config.base ≤ Config.base + off.toNat ∧ Config.base + off.toNat - Config.base < 2 ^ 32 :=
    ⟨Nat.le_add_right _ _, by rw [Nat.add_sub_cancel_left]; exact off.isLt⟩
  rw [serveAccess, if_pos rfl, if_pos hrouted, Nat.add_sub_cancel_left, BitVec.ofNat_toNat, BitVec.setWidth_eq]

theorem decode_accessFrame (k : AccessKind) (off w : U32) :
    decode ⟨BitVec.ofNat 40 ((if k = .write then 2 ^ 32 else 0) + off.toNat), BitVec.ofNat 64 w.toNat⟩ =
      .ok (busAccess k off w) := by
  have hoff := off.isLt
  have hw := w.isLt
  cases k with
  | read =>
    apply decode_of_readKey
    rw [if_neg (by decide), BitVec.toNat_ofNat]
    omega
  | write =>
    apply decode_of_writeKey
    · rw [if_pos rfl, BitVec.toNat_ofNat]
      omega
    · rw [BitVec.toNat_ofNat]
      omega

/-- Settles O49: both requests run the same bus access, the one routed by its address, the other decoded from its
frame. -/
theorem masterAccessIsThePortAccess : Obligations.MasterAccessIsThePortAccess := by
  intro s off w k rest h f
  have hport : Sys2Proof.Machine.step { s with inbox := .stimulus f :: rest } =
      exec (busAccess k off w) { s with inbox := rest } :=
    step_of_stimulus rfl (decode_accessFrame k off w) (busAccess_wf k off w)
  rw [hport, step_of_inbox h, serve, serveAccess_at_base]

/-- Settles O50: the size is checked before the address. -/
theorem otherAccessSizesAreRefused : Obligations.OtherAccessSizesAreRefused := by
  intro s a rest h hsize
  rw [step_of_inbox h, serve, serveAccess, if_neg hsize]

/-! ### The tick engine's requests -/

/-- The block after the reference engine's `TICK d` (spec R100 (d)). -/
def Block.tick (b : Block) (d : U64) : Block :=
  if b.reaches d then { b with counter := b.counter + d }.recompute else { b with counter := b.counter + d }

theorem serveTick_of_enabled {d : U64} {s : State} (hd : d ≠ 0) (hen : s.blk.enabled = true) :
    serveTick d s = .next { s with blk := s.blk.tick d, response := .none } := by
  rw [serveTick, if_neg hd, execAdv, if_pos hen, Block.tick]
  cases s.blk.reaches d <;> rfl

theorem Block.reaches_iff (b : Block) (d : U64) : b.reaches d = true ↔
    b.counter.toNat < b.compare.toNat ∧ b.compare.toNat ≤ b.counter.toNat + d.toNat ∧
      b.counter.toNat + d.toNat < 2 ^ 64 := by
  rw [Block.reaches, decide_eq_true_iff]

/-- Settles O51: the notification in the same step is a recomputation, made exactly when the sum reaches. -/
theorem tickAdvancesAndNotifiesOnReaching : Obligations.TickAdvancesAndNotifiesOnReaching := by
  intro s d rest h hd hen
  have hne : d ≠ 0 := by
    rintro rfl
    exact hd rfl
  have hserve := serveTick_of_enabled (s := { s with inbox := rest }) hne hen
  rw [step_of_inbox h, serve, hserve, Block.tick]
  simp only [Block.reaches_iff, Block.recompute_eq_withLineFor, add_eq_ofNat]

/-- Settles O52: the two conditions on the present state are tested as one. -/
theorem afterMatchPolicySetsTheCounterOnly : Obligations.AfterMatchPolicySetsTheCounterOnly := by
  intro s v rest h
  rw [step_of_inbox h, serve, serveEngineSet]
  simp only [Bool.and_eq_true, Block.reached_iff, finishEvent_eq]

/-! ### What one step does -/

/-- What serving a request does to the block. -/
inductive Block.Served (b : Block) : Request → Block → Prop where
  | stimulus {f : Frame} {i : Instr} (hd : decode f = .ok i) : b.Served (.stimulus f) (b.after i)
  | master (a : Access) (k : AccessKind) (off w : U32) : b.Served (.master a) (b.after (busAccess k off w))
  | tick (d : U64) : b.Served (.tick d) (b.tick d)
  | engineSet (v : U64) (h : b.compare.toNat ≤ b.counter.toNat) : b.Served (.engineSet v) { b with counter := v }

theorem serve_next {r : Request} {s t : State} (h : serve r s = .next t) :
    t.inbox = s.inbox ∧ s.blk.Served r t.blk := by
  cases r with
  | stimulus f =>
    obtain ⟨i, hd, -, hexec⟩ := serveFrame_next h
    obtain rfl := exec_next hexec
    exact ⟨rfl, .stimulus hd⟩
  | master a =>
    obtain ⟨-, -, -, hexec⟩ := serveAccess_next h
    obtain rfl := exec_next hexec
    exact ⟨rfl, .master a _ _ _⟩
  | tick d =>
    obtain ⟨-, -, -, hinbox, hblk⟩ := serveTick_next h
    refine ⟨hinbox, ?_⟩
    rw [hblk]
    exact .tick d
  | engineSet v =>
    obtain ⟨-, hreached, rfl⟩ := serveEngineSet_next h
    exact ⟨rfl, .engineSet v (s.blk.reached_iff.mp hreached)⟩

/-- Once for all steps: the oldest request leaves the inbox, and the block moves as serving it says. -/
theorem step_next {s t : State} (h : Sys2Proof.Machine.step s = .next t) :
    ∃ r, s.inbox = r :: t.inbox ∧ s.blk.Served r t.blk := by
  cases hin : s.inbox with
  | nil => rw [step_of_empty hin] at h; cases h
  | cons r rest =>
    rw [step_of_inbox hin] at h
    obtain ⟨hinbox, hserved⟩ := serve_next h
    exact ⟨r, by rw [hinbox], hserved⟩

theorem exec_ne_refused (i : Instr) (s : State) (why : Refusal) : exec i s ≠ .refused why := by
  by_cases h : Stuck i s
  · rw [exec_of_stuck h]; exact nofun
  · rw [exec_of_not_stuck h]; exact nofun

/-- `noStimulus` is the empty inbox's alone: a request that is refused is refused under another name. -/
theorem serve_ne_noStimulus (r : Request) (s : State) : serve r s ≠ .refused .noStimulus := by
  cases r with
  | stimulus f =>
    rw [serve, serveFrame]
    split
    · split
      · exact exec_ne_refused _ _ _
      · exact nofun
    · exact nofun
  | master a =>
    rw [serve, serveAccess]
    split
    · split
      · exact exec_ne_refused _ _ _
      · exact nofun
    · exact nofun
  | tick d =>
    by_cases hd : d = 0
    · rw [serve, serveTick, if_pos hd]; exact nofun
    · cases hen : s.blk.enabled with
      | true => rw [serve, serveTick_of_enabled hd hen]; exact nofun
      | false => rw [serve, serveTick, if_neg hd, execAdv, if_neg (by rw [hen]; decide)]; exact nofun
  | engineSet v =>
    rw [serve, serveEngineSet]
    split <;> exact nofun

/-- Settles O47: a next state has the inbox without its head; `noStimulus` comes from the empty inbox alone. -/
theorem stepServesTheOldestRequestOnly : Obligations.StepServesTheOldestRequestOnly := by
  constructor
  · intro s t h
    obtain ⟨r, hinbox, -⟩ := step_next h
    exact ⟨r, hinbox⟩
  · intro s
    refine ⟨step_of_empty, fun h => ?_⟩
    cases hin : s.inbox with
    | nil => rfl
    | cons r rest =>
      rw [step_of_inbox hin] at h
      exact absurd h (serve_ne_noStimulus r _)

end Sys2Proof.Machine
end

section
/-! PROOFS. The invariants of spec R35 over steps and runs: I-div, I-force, and when the line is current. -/

namespace Sys2Proof.Machine

/-! ### The block's invariants -/

theorem dividerInv_of_eq_dividerOf {b : Block} (h : b.divider = dividerOf b.prescaler b.step) : b.DividerInv := by
  have hval : b.divider.toNat = max 1 ((b.prescaler.toNat + 1) * b.step.toNat) := by rw [h, dividerOf_toNat]
  have hle := divider_product_le b.prescaler b.step
  exact ⟨hval, by omega, by omega⟩

theorem s0_inv : Block.s0.Inv := ⟨dividerInv_of_eq_dividerOf rfl, nofun⟩

/-- Settles O53: `S0`'s divider is that of its two zero fields, and its force is clear. -/
theorem resetMeetsTheBlockInvariant : Obligations.ResetMeetsTheBlockInvariant := s0_inv

/-- A `Configuration` write derives the divider anew and `RESET` restores that of `S0`; the rest leave all three. -/
theorem Block.DividerInv.after {b : Block} (h : b.DividerInv) (i : Instr) : (b.after i).DividerInv := by
  cases i with
  | wrConfiguration w => exact dividerInv_of_eq_dividerOf rfl
  | reset => exact s0_inv.1
  | _ => exact h

theorem Block.ForceInv.recompute (b : Block) : b.recompute.ForceInv := by
  intro hforce
  exact b.recompute_line_iff.mpr (.inr hforce)

/-- A force sets the line along with the latch, and a recomputation keeps it up. -/
theorem Block.ForceInv.after {b : Block} (h : b.ForceInv) (i : Instr) : (b.after i).ForceInv := by
  cases hrec : recomputes i with
  | true =>
    rw [Block.after_of_recomputes b hrec]
    exact Block.ForceInv.recompute _
  | false =>
    have hi : i ≠ .reset := by
      rintro rfl
      cases hrec
    intro hforce
    rw [Block.after_testForce, Block.edit_testForce b hi, Bool.or_eq_true] at hforce
    rw [Block.after_line_of_not_recomputes b hrec, Bool.or_eq_true]
    exact hforce.imp_left h

theorem Block.Inv.tick {b : Block} (h : b.Inv) (d : U64) : (b.tick d).Inv := by
  rw [Block.tick]
  split
  · exact ⟨h.1, Block.ForceInv.recompute _⟩
  · exact h

theorem Block.Served.inv {b b' : Block} {r : Request} (hs : b.Served r b') (h : b.Inv) : b'.Inv := by
  cases hs with
  | stimulus hd => exact ⟨h.1.after _, h.2.after _⟩
  | master a k off w => exact ⟨h.1.after _, h.2.after _⟩
  | tick d => exact h.tick d
  | engineSet v hreached => exact h

/-- Settles O54: each way a step can move the block keeps both invariants. -/
theorem stepKeepsTheBlockInvariant : Obligations.StepKeepsTheBlockInvariant := by
  intro s t hinv h
  obtain ⟨r, -, hserved⟩ := step_next h
  exact hserved.inv hinv

theorem Block.tick_testForce (b : Block) (d : U64) : (b.tick d).testForce = b.testForce := by
  rw [Block.tick]; split <;> rfl

theorem reset_of_after_ends_testForce {b : Block} {i : Instr} (hset : b.testForce = true)
    (hclear : (b.after i).testForce = false) : i = .reset := by
  by_contra hi
  rw [Block.after_testForce, Block.edit_testForce b hi, hset, Bool.true_or] at hclear
  cases hclear

/-- Settles O55: the latch is cleared by the stimulus `RESET` alone; a bus access is none, and the engine's requests
leave the latch. -/
theorem onlyResetEndsATestForce : Obligations.OnlyResetEndsATestForce := by
  intro s t h hset hclear
  obtain ⟨r, hinbox, hserved⟩ := step_next h
  rw [hinbox]
  generalize t.blk = b' at hserved hclear
  cases hserved with
  | @stimulus f i hd =>
    obtain rfl := reset_of_after_ends_testForce hset hclear
    exact ⟨f, rfl, hd⟩
  | master a k off w => exact absurd (reset_of_after_ends_testForce hset hclear) (busAccess_ne_reset k off w)
  | tick d => rw [Block.tick_testForce, hset] at hclear; cases hclear
  | engineSet v hreached => rw [hset] at hclear; cases hclear

/-! ### When the line goes stale (spec R131) -/

/-- A stimulus other than `ADV` recomputes, forces the line, or edits nothing the line looks at. -/
theorem Block.LineCurrent.after {b : Block} (h : b.LineCurrent) {i : Instr} (hi : ∀ d, i ≠ .adv d) :
    (b.after i).LineCurrent := by
  cases hrec : recomputes i with
  | true => exact b.after_lineCurrent_of_recomputes hrec
  | false =>
    cases i with
    | wrIntrTest w =>
      rw [Block.after_wrIntrTest]
      split
      · exact (decide_eq_true (.inr rfl)).symm
      · exact h
    | adv d => exact absurd rfl (hi d)
    | wrControl0 w | wrValueLow w | wrValueHigh w | wrCompareLow w | wrCompareHigh w | wrIntrEnable w
    | wrIntrStatus w | cmphit | reset => cases hrec
    | _ => exact h

/-- A counter that moves without a recomputation makes a current line stale by crossing the compare value, up or
down. -/
theorem stale_of_counter_moved {b : Block} {c : U64} (h : b.LineCurrent)
    (hstale : ¬ { b with counter := c }.LineCurrent) :
    (b.line = false ∧ { b with counter := c }.Match ∧ b.counter.toNat < b.compare.toNat) ∨
    (b.line = true ∧ ¬ { b with counter := c }.Match ∧ b.Match ∧ c.toNat < b.compare.toNat) := by
  have hline := Block.lineCurrent_iff.mp h
  rw [Block.lineCurrent_iff] at hstale
  cases hl : b.line with
  | false =>
    have hlow : ¬ (b.Match ∨ b.testForce = true) := fun hor => by
      rw [hline.mpr hor] at hl
      cases hl
    obtain ⟨hnomatch, hnoforce⟩ := not_or.mp hlow
    have hmatch : { b with counter := c }.Match := by
      by_contra hno
      exact hstale (iff_of_false (hl ▸ Bool.false_ne_true) (not_or.mpr ⟨hno, hnoforce⟩))
    have ⟨hen, hie, _⟩ := hmatch
    refine .inl ⟨rfl, hmatch, ?_⟩
    by_contra hge
    exact hnomatch ⟨hen, hie, Nat.le_of_not_lt hge⟩
  | true =>
    have hlow : ¬ ({ b with counter := c }.Match ∨ b.testForce = true) := fun hor =>
      hstale (iff_of_true hl hor)
    obtain ⟨hnomatch, hnoforce⟩ := not_or.mp hlow
    have hmatch : b.Match := (hline.mp hl).resolve_right hnoforce
    have ⟨hen, hie, _⟩ := hmatch
    refine .inr ⟨rfl, hnomatch, hmatch, ?_⟩
    by_contra hge
    exact hnomatch ⟨hen, hie, Nat.le_of_not_lt hge⟩

/-- For an advance, crossing up means reaching without a wrap, and crossing down means a wrap. -/
theorem stale_of_advanced {b : Block} {d : U64} (h : b.LineCurrent)
    (hstale : ¬ { b with counter := b.counter + d }.LineCurrent) :
    (b.line = false ∧ { b with counter := b.counter + d }.Match ∧ b.reaches d = true) ∨
    (b.line = true ∧ ¬ { b with counter := b.counter + d }.Match ∧ b.Match ∧
      2 ^ 64 ≤ b.counter.toNat + d.toNat) := by
  have hsum : (b.counter + d).toNat = (b.counter.toNat + d.toNat) % 2 ^ 64 := BitVec.toNat_add _ _
  obtain ⟨hl, hmatch, hbelow⟩ | ⟨hl, hnomatch, hmatch, hbelow⟩ := stale_of_counter_moved h hstale
  · have ⟨_, _, hge⟩ := hmatch
    have hd := d.isLt
    refine .inl ⟨hl, hmatch, (b.reaches_iff d).mpr ?_⟩
    simp only at hge
    omega
  · have ⟨_, _, hge⟩ := hmatch
    exact .inr ⟨hl, hnomatch, hmatch, by omega⟩

/-- Settles O58: the line is left behind only by a counter that moves with no recomputation, which a bare `ADV`, a
`TICK` that does not reach, and another engine's setting do. -/
theorem lineGoesStaleInThreeSituations : Obligations.LineGoesStaleInThreeSituations := by
  intro s t h hstep hstale
  obtain ⟨r, hinbox, hserved⟩ := step_next hstep
  refine ⟨r, hinbox, ?_⟩
  generalize t.blk = b' at hserved hstale
  cases hserved with
  | @stimulus f i hd =>
    have hi : ∃ d, i = .adv d := by
      by_contra hno
      exact hstale (h.after (not_exists.mp hno))
    obtain ⟨d, rfl⟩ := hi
    obtain ⟨hl, hmatch, hreach⟩ | ⟨hl, hnomatch, hmatch, hwrap⟩ := stale_of_advanced h hstale
    · obtain ⟨hbelow, hsum, -⟩ := (s.blk.reaches_iff d).mp hreach
      exact .inl ⟨hl, hmatch, f, d, rfl, hd, hbelow, hsum⟩
    · exact .inr (.inl ⟨hl, hnomatch, hmatch, d, .inr ⟨f, rfl, hd⟩, hwrap⟩)
  | master a k off w => exact absurd (h.after (busAccess_ne_adv k off w)) hstale
  | tick d =>
    rw [Block.tick] at hstale ⊢
    split at hstale
    · exact absurd (Block.recompute_lineCurrent _) hstale
    next hreach =>
      rw [if_neg hreach]
      obtain ⟨-, -, hreach'⟩ | ⟨hl, hnomatch, hmatch, hwrap⟩ := stale_of_advanced h hstale
      · exact absurd hreach' hreach
      · exact .inr (.inl ⟨hl, hnomatch, hmatch, d, .inl rfl, hwrap⟩)
  | engineSet v hreached =>
    obtain ⟨-, -, hbelow⟩ | ⟨hl, hnomatch, hmatch, hbelow⟩ := stale_of_counter_moved h hstale
    · exact absurd hreached (Nat.not_le_of_lt hbelow)
    · exact .inr (.inr ⟨hl, hnomatch, hmatch, v, rfl, hbelow⟩)

/-- Settles O56: the reference engine makes none of the three requests that let a current line go stale. -/
theorem referenceStepKeepsTheLineCurrent : Obligations.ReferenceStepKeepsTheLineCurrent := by
  intro s t h href hstep
  by_contra hstale
  obtain ⟨r, hinbox, hsituation⟩ := lineGoesStaleInThreeSituations s t h hstep hstale
  have hr : r.reference s.blk := href r (by rw [hinbox]; rfl)
  obtain ⟨-, -, f, d, rfl, hd, -, -⟩ | ⟨-, -, -, d, rfl | ⟨f, rfl, hd⟩, hwrap⟩ | ⟨-, -, -, v, rfl, -⟩ := hsituation
  · exact hr d hd
  · exact Nat.not_lt_of_le hwrap hr
  · exact hr d hd
  · exact hr

theorem runSteps_succ_next {k : Nat} {s t : State} (h : runSteps (k + 1) s = .next t) :
    ∃ u, Sys2Proof.Machine.step s = .next u ∧ runSteps k u = .next t := by
  rw [runSteps] at h
  split at h
  next u hstep => exact ⟨u, hstep, h⟩
  · cases h
  · cases h

theorem runSteps_succ_of_step {k : Nat} {s u : State} (h : Sys2Proof.Machine.step s = .next u) :
    runSteps (k + 1) s = runSteps k u := by
  rw [runSteps, h]

/-- The induction over a run, from any start whose line is current. -/
theorem runSteps_keeps_lineCurrent {k : Nat} {s t : State} (h : s.blk.LineCurrent)
    (href : ∀ (j : Nat) (u : State), j < k → runSteps j s = .next u → ∀ r ∈ u.inbox.head?, r.reference u.blk)
    (hrun : runSteps k s = .next t) : t.blk.LineCurrent := by
  induction k generalizing s with
  | zero => cases hrun; exact h
  | succ k ih =>
    obtain ⟨u, hstep, hrest⟩ := runSteps_succ_next hrun
    have hu : u.blk.LineCurrent :=
      referenceStepKeepsTheLineCurrent s u h (href 0 s (Nat.succ_pos k) rfl) hstep
    refine ih hu (fun j v hj hv => ?_) hrest
    exact href (j + 1) v (Nat.succ_lt_succ hj) ((runSteps_succ_of_step hstep).trans hv)

/-- Settles O57: the line is current at reset, and the run keeps it so. -/
theorem referenceRunKeepsTheLineCurrent : Obligations.ReferenceRunKeepsTheLineCurrent := by
  intro script k t href hrun
  have hstart : ({ State.reset with inbox := script } : State).blk.LineCurrent := rfl
  rw [State.irq_eq]
  exact Block.lineCurrent_iff.mp (runSteps_keeps_lineCurrent hstart href hrun)

end Sys2Proof.Machine
end

section
/-! PROOFS. Scripts of stimuli: the half-writes, the sticky test force, and the sequences of the hazards. -/

namespace Sys2Proof.Machine

/-! ### A script as a fold -/

theorem runScript_next {script : List Instr} {s t : State} (h : runScript script s = .next t) :
    t = script.foldl State.after s := by
  induction script generalizing s with
  | nil => cases h; rfl
  | cons i rest ih =>
    rw [runScript] at h
    split at h
    next u hu =>
      obtain rfl := exec_next hu
      exact ih h
    · cases h
    · cases h

/-- Without an `ADV` no script is stuck. -/
theorem runScript_of_no_adv {script : List Instr} (s : State) (h : ∀ d, .adv d ∉ script) :
    runScript script s = .next (script.foldl State.after s) := by
  induction script generalizing s with
  | nil => rfl
  | cons i rest ih =>
    have hi : ∀ d, i ≠ .adv d := fun d hd => h d (hd ▸ List.mem_cons_self)
    rw [runScript, exec_of_not_stuck (not_stuck_of_ne_adv hi)]
    exact ih _ fun d hd => h d (List.mem_cons_of_mem i hd)

@[simp] theorem foldl_after_blk (script : List Instr) (s : State) :
    (script.foldl State.after s).blk = script.foldl Block.after s.blk := by
  induction script generalizing s with
  | nil => rfl
  | cons i rest ih => exact ih (s.after i)

/-- What every stimulus of a script keeps, the script keeps. -/
theorem foldl_after_keeps {P : Block → Prop} {script : List Instr} {b : Block}
    (hkeep : ∀ i ∈ script, ∀ b, P b → P (b.after i)) (hb : P b) : P (script.foldl Block.after b) := by
  induction script generalizing b with
  | nil => exact hb
  | cons i rest ih =>
    exact ih (fun j hj => hkeep j (List.mem_cons_of_mem i hj)) (hkeep i List.mem_cons_self b hb)

/-! ### The half-writes -/

theorem withHigh_withLow_halves (c v : U64) : withHigh (withLow c (lowHalf v)) (highHalf v) = v :=
  eq_of_halves (by simp) (by simp)

theorem withLow_withHigh_halves (c v : U64) : withLow (withHigh c (highHalf v)) (lowHalf v) = v :=
  eq_of_halves (by simp) (by simp)

/-- What is to be shown of a `Value` script: it completes, the counter is `v`, and the reads return its halves. -/
theorem value_after_halfWrites {script : List Instr} {s : State} {v : U64} (hadv : ∀ d, .adv d ∉ script)
    (hcounter : (script.foldl Block.after s.blk).counter = v)
    (hcompare : (script.foldl Block.after s.blk).compare = s.blk.compare) :
    ∃ t, runScript script s = .next t ∧ t.blk.counter = v ∧ t.blk.compare = s.blk.compare ∧
      exec .rdValueLow t = .next { t with response := .data (lowHalf v) } ∧
      exec .rdValueHigh t = .next { t with response := .data (highHalf v) } := by
  rw [← foldl_after_blk] at hcounter hcompare
  refine ⟨_, runScript_of_no_adv s hadv, hcounter, hcompare, ?_, ?_⟩
  · rw [exec_rdValueLow, respondData_eq, hcounter]
  · rw [exec_rdValueHigh, respondData_eq, hcounter]

/-- As `value_after_halfWrites`, for `Compare`. -/
theorem compare_after_halfWrites {script : List Instr} {s : State} {v : U64} (hadv : ∀ d, .adv d ∉ script)
    (hcompare : (script.foldl Block.after s.blk).compare = v)
    (hcounter : (script.foldl Block.after s.blk).counter = s.blk.counter) :
    ∃ t, runScript script s = .next t ∧ t.blk.compare = v ∧ t.blk.counter = s.blk.counter ∧
      exec .rdCompareLow t = .next { t with response := .data (lowHalf v) } ∧
      exec .rdCompareHigh t = .next { t with response := .data (highHalf v) } := by
  rw [← foldl_after_blk] at hcounter hcompare
  refine ⟨_, runScript_of_no_adv s hadv, hcompare, hcounter, ?_, ?_⟩
  · rw [exec_rdCompareLow, respondData_eq, hcompare]
  · rw [exec_rdCompareHigh, respondData_eq, hcompare]

/-- Settles O33: the two merges, in either order, leave nothing of the old element. -/
theorem halfWritesRebuildTheValue : Obligations.HalfWritesRebuildTheValue := by
  intro v s lo hi
  have hlo : lo = lowHalf v := (lowHalf_eq_ofNat v).symm
  have hhi : hi = highHalf v := (highHalf_eq_ofNat v).symm
  rw [hlo, hhi]
  simp only [List.forall_mem_cons, List.not_mem_nil, false_imp_iff, implies_true, and_true]
  refine ⟨⟨?_, ?_⟩, ⟨?_, ?_⟩⟩
  · exact value_after_halfWrites (by simp) (withHigh_withLow_halves _ v) rfl
  · exact value_after_halfWrites (by simp) (withLow_withHigh_halves _ v) rfl
  · exact compare_after_halfWrites (by simp) (withHigh_withLow_halves _ v) rfl
  · exact compare_after_halfWrites (by simp) (withLow_withHigh_halves _ v) rfl

/-! ### The sticky test force -/

/-- The line is high and the latch holds it there. -/
def Block.Forced (b : Block) : Prop := b.line = true ∧ b.testForce = true

theorem Block.Forced.after {b : Block} (h : b.Forced) {i : Instr} (hi : i ≠ .reset) : (b.after i).Forced := by
  obtain ⟨hline, hforce⟩ := h
  have hforce' : (b.after i).testForce = true := by
    rw [Block.after_testForce, Block.edit_testForce b hi, hforce, Bool.true_or]
  have hinv : b.ForceInv := fun _ => hline
  exact ⟨hinv.after i hforce', hforce'⟩

theorem Block.forced_after_wrIntrTest {w : U32} (b : Block) (h : w.toNat % 2 = 1) :
    (b.after (.wrIntrTest w)).Forced := by
  rw [Block.after_wrIntrTest, if_pos ((bit0_iff w).mpr h)]
  exact ⟨rfl, rfl⟩

/-- Settles O42: the forcing write latches, and every later stimulus but `RESET` keeps latch and line. -/
theorem forcedLineStaysUntilReset : Obligations.ForcedLineStaysUntilReset := by
  intro script w s t hodd hreset hrun
  obtain rfl := runScript_next hrun
  rw [foldl_after_blk, List.foldl_cons]
  have hkeep : ∀ i ∈ script, ∀ b : Block, b.Forced → (b.after i).Forced := fun i hi b hb =>
    hb.after fun he => hreset (he ▸ hi)
  exact foldl_after_keeps hkeep (s.blk.forced_after_wrIntrTest hodd)

/-! ### The glitch-free compare update -/

theorem Block.recompute_line_low {b : Block} (hforce : b.testForce = false)
    (hbelow : b.counter.toNat < b.compare.toNat) : b.recompute.line = false := by
  rw [← Bool.not_eq_true, Block.recompute_line_iff, hforce]
  rintro (⟨-, -, hge⟩ | h)
  · exact Nat.not_lt_of_le hge hbelow
  · cases h

/-- Raising the low half to its maximum cannot lower the element. -/
theorem le_withLow_max (v : U64) : v.toNat ≤ (withLow v 0xFFFFFFFF).toNat := by
  have hmax : (0xFFFFFFFF : U32).toNat = 0xFFFFFFFF := rfl
  rw [withLow_toNat, hmax]
  omega

/-- With the low half at its maximum, writing the target's high half cannot fall below the target. -/
theorem le_withHigh_of_low_max {c : U64} (target : U64) (h : lowHalf c = 0xFFFFFFFF) :
    target.toNat ≤ (withHigh c (highHalf target)).toNat := by
  have hmax : (0xFFFFFFFF : U32).toNat = 0xFFFFFFFF := rfl
  rw [withHigh_toNat, ← lowHalf_toNat, h, hmax, highHalf_toNat]
  omega

/-- Settles O43: the three compare values on the way are at or above the old value, the target and the target. -/
theorem glitchFreeCompareUpdate : Obligations.GlitchFreeCompareUpdate := by
  intro s target hforce hold hnew
  rw [← lowHalf_eq_ofNat, ← highHalf_eq_ofNat]
  refine ⟨_, _, _, exec_wrCompareLow _ s, ?_, exec_wrCompareHigh _ _, ?_, exec_wrCompareLow _ _, ?_, ?_⟩
  · exact Block.recompute_line_low hforce (hold.trans_le (le_withLow_max _))
  · exact Block.recompute_line_low hforce
      (hnew.trans_le (le_withHigh_of_low_max target (lowHalf_withLow _ _)))
  · refine Block.recompute_line_low hforce (hnew.trans_eq (congrArg BitVec.toNat ?_))
    exact (withLow_withHigh_halves _ target).symm
  · exact withLow_withHigh_halves _ target

/-! ### The high, low, high read -/

/-- Less than 2^32 in all is too little to bring the high half back once it has moved, also across a wrap. -/
theorem highHalf_stable_between {c d1 d2 : U64} (hsum : d1.toNat + d2.toNat < 2 ^ 32)
    (h : highHalf c = highHalf (c + d1 + d2)) : highHalf (c + d1) = highHalf c := by
  rw [← BitVec.toNat_inj, highHalf_toNat, highHalf_toNat, BitVec.toNat_add, BitVec.toNat_add] at h
  rw [← BitVec.toNat_inj, highHalf_toNat, highHalf_toNat, BitVec.toNat_add]
  have hc := c.isLt
  omega

/-- Settles O44: the equal answers say that the high half did not move between the two high reads, so it is also that
of the counter at the low read. -/
theorem highLowHighReadIsTrue : Obligations.HighLowHighReadIsTrue := by
  intro s d1 d2 h1 l h2 r1 a1 r2 a2 r3 hsum e1 hr1 ea1 e2 hr2 ea2 e3 hr3 heq
  obtain rfl := exec_next e1
  obtain rfl := exec_next ea1
  obtain rfl := exec_next e2
  obtain rfl := exec_next ea2
  obtain rfl := exec_next e3
  have hh1 : highHalf s.blk.counter = h1 := Response.data.inj hr1
  have hl : lowHalf (s.blk.counter + d1) = l := Response.data.inj hr2
  have hh2 : highHalf (s.blk.counter + d1 + d2) = h2 := Response.data.inj hr3
  have hstable := highHalf_stable_between hsum (hh1.trans (heq.trans hh2.symm))
  show h1.toNat * 2 ^ 32 + l.toNat = (s.blk.counter + d1).toNat
  rw [toNat_halves, hstable, hh1, hl]

/-! ### The initialisation order -/

/-- Disabled, unforced and low: what the initialisation order keeps until its last write. -/
def Block.Quiet (b : Block) : Prop := b.enabled = false ∧ b.testForce = false ∧ b.line = false

theorem not_match_of_disabled {b : Block} (h : b.enabled = false) : ¬ b.Match := by
  rintro ⟨hen, -, -⟩
  rw [h] at hen
  cases hen

theorem Block.quiet_of_edit {b : Block} {i : Instr} (hen : (b.edit i).enabled = false)
    (hforce : (b.edit i).testForce = false) (hline : recomputes i = false → (b.edit i).line = false) :
    (b.after i).Quiet := by
  refine ⟨(b.after_enabled i).trans hen, (b.after_testForce i).trans hforce, ?_⟩
  cases hrec : recomputes i with
  | true =>
    rw [Block.after_of_recomputes b hrec, ← Bool.not_eq_true, Block.recompute_line_iff, hforce]
    rintro (hmatch | hf)
    · exact not_match_of_disabled hen hmatch
    · cases hf
  | false => rw [Block.after_of_not_recomputes b hrec, hline hrec]

theorem Block.quiet_of_disable {b : Block} (hforce : b.testForce = false) : (b.after (.wrControl0 0)).Quiet :=
  Block.quiet_of_edit rfl hforce nofun

/-- Only a `Control0` write enables and only a force raises an unmatched line. -/
theorem Block.Quiet.after {b : Block} (h : b.Quiet) {i : Instr} (hreset : i ≠ .reset) (hctl : ∀ w, i ≠ .wrControl0 w)
    (hforce : forcesLine i = false) : (b.after i).Quiet := by
  obtain ⟨hen, hf, hl⟩ := h
  have hen' : (b.edit i).enabled = false := by
    by_contra hne
    obtain ⟨w, hw⟩ := writer_of_edit_enabled (b := b) hreset (hen ▸ hne)
    exact hctl w hw
  refine Block.quiet_of_edit hen' ?_ fun _ => ?_
  · rw [Block.edit_testForce b hreset, hf, hforce]; rfl
  · rw [Block.edit_line, hl, hforce]; rfl

/-- The writes of the initialisation order between the two of Control0 (spec R163). -/
def initWrites (cfg : U32) (start target : U64) : List Instr :=
  [.wrIntrEnable 0, .wrConfiguration cfg, .wrValueLow (lowHalf start), .wrValueHigh (highHalf start),
    .wrCompareLow (lowHalf target), .wrCompareHigh (highHalf target), .wrIntrEnable 1]

theorem initWrites_are_quiet {cfg : U32} {start target : U64} {i : Instr} (h : i ∈ initWrites cfg start target) :
    i ≠ .reset ∧ (∀ w, i ≠ .wrControl0 w) ∧ forcesLine i = false := by
  simp only [initWrites, List.mem_cons, List.not_mem_nil, or_false] at h
  rcases h with rfl | rfl | rfl | rfl | rfl | rfl | rfl <;> exact ⟨nofun, nofun, rfl⟩

theorem initWrites_no_adv (cfg : U32) (start target : U64) (d : U64) : .adv d ∉ initWrites cfg start target := by
  simp [initWrites]

/-- Every initial segment of the order leaves the block quiet once it has disabled it. -/
theorem quiet_after_initWrites {b : Block} (hforce : b.testForce = false) {script : List Instr} {cfg : U32}
    {start target : U64} (hsub : ∀ i ∈ script, i ∈ initWrites cfg start target) :
    ((Instr.wrControl0 0 :: script).foldl Block.after b).Quiet := by
  rw [List.foldl_cons]
  refine foldl_after_keeps (fun i hi b hb => ?_) (Block.quiet_of_disable hforce)
  obtain ⟨hreset, hctl, hnf⟩ := initWrites_are_quiet (hsub i hi)
  exact hb.after hreset hctl hnf

/-- The elements at the end of the order's setup: both values rebuilt from their halves, the interrupt enabled. -/
theorem elements_after_initWrites (b : Block) (cfg : U32) (start target : U64) :
    ((initWrites cfg start target).foldl Block.after b).counter = start ∧
    ((initWrites cfg start target).foldl Block.after b).compare = target ∧
    ((initWrites cfg start target).foldl Block.after b).intrEnable = true :=
  ⟨withHigh_withLow_halves b.counter start, withHigh_withLow_halves b.compare target, rfl⟩

/-- The last write: enabling an unforced block asserts its line exactly when the interrupt is enabled and the counter
has reached. -/
theorem Block.line_after_enable {b : Block} (hforce : b.testForce = false) (hie : b.intrEnable = true) :
    (b.after (.wrControl0 1)).line = true ↔ b.compare.toNat ≤ b.counter.toNat := by
  have hline : (b.after (.wrControl0 1)).line = true ↔
      (true = true ∧ b.intrEnable = true ∧ b.compare.toNat ≤ b.counter.toNat) ∨ b.testForce = true :=
    Block.recompute_line_iff { b with enabled := true }
  rw [hline, hforce, hie]
  simp

/-- Settles O45: the order's first write makes the block quiet and the next seven keep it so; the ninth recomputes
with everything else in place. -/
theorem initialisationOrderIsQuiet : Obligations.InitialisationOrderIsQuiet := by
  intro s cfg start target hforce script
  have hscript : script = .wrControl0 0 :: initWrites cfg start target := by
    rw [initWrites, lowHalf_eq_ofNat, lowHalf_eq_ofNat, highHalf_eq_ofNat, highHalf_eq_ofNat]
  have hadv : ∀ d, .adv d ∉ script := by
    intro d
    rw [hscript]
    exact List.not_mem_cons_of_ne_of_not_mem nofun (initWrites_no_adv cfg start target d)
  constructor
  · intro n hn _
    obtain ⟨m, rfl⟩ := Nat.exists_eq_add_of_le' hn
    refine ⟨_, runScript_of_no_adv s fun d hd => hadv d (List.mem_of_mem_take hd), ?_⟩
    rw [foldl_after_blk, hscript, List.take_succ_cons]
    obtain ⟨-, -, hline⟩ := quiet_after_initWrites hforce
      (fun i hi => List.mem_of_mem_take (i := m) (l := initWrites cfg start target) hi)
    exact hline
  · have hlast : ∀ d, .adv d ∉ script ++ [Instr.wrControl0 1] := fun d hd =>
      (List.mem_append.mp hd).elim (hadv d) (by simp)
    refine ⟨_, runScript_of_no_adv s hlast, ?_⟩
    rw [foldl_after_blk, List.foldl_append, hscript]
    obtain ⟨-, hf, -⟩ := quiet_after_initWrites hforce (fun i (hi : i ∈ initWrites cfg start target) => hi)
    obtain ⟨hcounter, hcompare, hie⟩ :=
      elements_after_initWrites (s.blk.after (.wrControl0 0)) cfg start target
    rw [← List.foldl_cons] at hcounter hcompare hie
    generalize (Instr.wrControl0 0 :: initWrites cfg start target).foldl Block.after s.blk = b at *
    refine ⟨hcounter, hcompare, rfl, ?_⟩
    rw [List.foldl_cons, List.foldl_nil, Block.line_after_enable hf hie, hcompare, hcounter]

end Sys2Proof.Machine
end
